-- ==== Sys2Proof/Word.lean ====
section
/-! DEFINITION. The plainest value types of the Scaltor PA616 model: bytes, zone masks, numbered rooms and
stations, and tables of a fixed size. Card numbers (00 section 0.5), estate minutes (0 to 4,294,967,295), and moments and
durations of the timebase in milliseconds (02 R31) are plain `Nat`s, so that `omega` reads them. -/

namespace Sys2Proof

/-- One byte on either RS-485 line. -/
abbrev Byte := BitVec 8

/-- A zone mask: 32 bits, one for each zone index (01 section 1.1.1). -/
abbrev ZoneMask := BitVec 32

/-- One of the six rooms. Room `r` of the model is room number `r + 1` of the spec. -/
abbrev RoomId := Fin 6

/-- One of the sixteen field stations. Station `a` of the model is field address `a + 1`. -/
abbrev StationId := Fin 16

/-- One of the eight release programs, numbered 0 to 7. -/
abbrev ProgramId := Fin 8

/-- The number of a room, 1 to 6. -/
def roomNumber (r : RoomId) : Nat := r.val + 1

/-- The field address of a station, 1 to 16. -/
def fieldAddress (a : StationId) : Nat := a.val + 1

/-- The rooms in the order of their numbers. -/
def allRooms : List RoomId := [0, 1, 2, 3, 4, 5]

/-- The stations in the order of their addresses. -/
def allStations : List StationId := [0, 1, 2, 3, 4, 5, 6, 7, 8, 9, 10, 11, 12, 13, 14, 15]

/-- The programs in the order of their numbers. -/
def allPrograms : List ProgramId := [0, 1, 2, 3, 4, 5, 6, 7]

/-- The room of a number, where the number is 1 to 6. -/
def roomOfNumber (n : Nat) : Option RoomId :=
  if h : 1 ≤ n ∧ n ≤ 6 then some ⟨n - 1, by omega⟩ else none

/-- The station of a field address, where the address is 1 to 16. -/
def stationOfAddress (n : Nat) : Option StationId :=
  if h : 1 ≤ n ∧ n ≤ 16 then some ⟨n - 1, by omega⟩ else none

/-- The program of a number, where the number is 0 to 7. -/
def programOfNumber (n : Nat) : Option ProgramId :=
  if h : n ≤ 7 then some ⟨n, by omega⟩ else none

/-- The entry of a fixed table at an index. -/
def look {α : Type} {n : Nat} (v : Vector α n) (i : Fin n) : α := v.get i

/-- A fixed table with one entry replaced. -/
def put {α : Type} {n : Nat} (v : Vector α n) (i : Fin n) (x : α) : Vector α n := v.set i.val x i.isLt

@[simp] theorem look_put_self {α : Type} {n : Nat} (v : Vector α n) (i : Fin n) (x : α) :
    look (put v i x) i = x := by
  simp [look, put, Vector.get_eq_getElem]

theorem look_put_other {α : Type} {n : Nat} (v : Vector α n) (i j : Fin n) (x : α) (h : i ≠ j) :
    look (put v i x) j = look v j := by
  have h' : i.val ≠ j.val := fun e => h (Fin.ext e)
  simp [look, put, Vector.get_eq_getElem, h']

theorem look_put {α : Type} {n : Nat} (v : Vector α n) (i j : Fin n) (x : α) :
    look (put v i x) j = if i = j then x else look v j := by
  by_cases h : i = j
  · subst h
    simp
  · simp [h, look_put_other v i j x h]

@[simp] theorem put_look {α : Type} {n : Nat} (v : Vector α n) (i : Fin n) : put v i (look v i) = v := by
  simp [look, put, Vector.get_eq_getElem]

@[simp] theorem look_replicate {α : Type} {n : Nat} (x : α) (i : Fin n) :
    look (Vector.replicate n x) i = x := by
  simp [look, Vector.get_eq_getElem]

theorem table_ext {α : Type} {n : Nat} {v w : Vector α n} (h : ∀ i, look v i = look w i) : v = w := by
  apply Vector.ext
  intro i hi
  have := h ⟨i, hi⟩
  simpa [look, Vector.get_eq_getElem] using this

end Sys2Proof
end

