-- ==== Sys2Proof/Syntax.lean ====
section
/-! DEFINITION. The commands of the block: one constructor for each row of spec/opcode_table.json, with the operands
that the outside supplies. The raw settings image is here too, since SAVE_WRITE_END can carry one. -/

namespace Sys2Proof

namespace Machine

/-- ENTRY or EXIT: the two readers of a room and the two kinds of release (03 section 3.1, 07 section 7.4). -/
inductive Direction where
  | entry
  | exit
  deriving DecidableEq, Repr

/-- The nine part-wide settings as numbers in the order of 09 section 9.6.1, coded fields by their codes (12 R184). -/
structure PartFields where
  epochWeekday : Nat
  groupMode : Nat
  shift : Nat
  repeatSuppression : Nat
  readerPolicy : Nat
  escortWindow : Nat
  lineSpeed : Nat
  replyTimeout : Nat
  trunkSilence : Nat
  deriving DecidableEq, Repr

/-- The twelve settings of a room record as numbers in the order of 03 section 3.1. The dwell offset is the byte of its
two's complement (12 R184). -/
structure RoomFields where
  enabled : Nat
  roomCode : Nat
  entryReader : Nat
  exitReader : Nat
  lockDriver : Nat
  occupancyLimit : Nat
  passback : Nat
  heldLimit : Nat
  dwellOffset : Nat
  checkInInterval : Nat
  entryProgram : Nat
  exitProgram : Nat
  deriving DecidableEq, Repr

/-- A station's kind and enabled choice as codes (08 section 8.1). -/
structure StationFields where
  kind : Nat
  enabled : Nat
  deriving DecidableEq, Repr

/-- One position of a release program as it is sent: a step code and a unit count (12 R185). -/
structure StepFields where
  code : Nat
  count : Nat
  deriving DecidableEq, Repr

/-- The values of a settings image, unchecked (11 section 11.3). A program is its eight positions. -/
structure SettingsImage where
  part : PartFields
  rooms : Vector RoomFields 6
  stations : Vector StationFields 16
  programs : Vector (List StepFields) 8
  address : Option Nat
  deriving DecidableEq, Repr

/-- Where a write of the settings image stood when the supply or the reset input cut it short (11 R183). -/
inductive WriteCut where
  /-- before the clearing of the signature had completed: the old image is left -/
  | beforeClear
  /-- after the clearing and before the new signature was written -/
  | beforeSignature
  /-- after the new signature, during the read-back: the new image is left -/
  | afterSignature
  /-- after a read-back that differed, and before the clearing of the signature that follows it had completed; what the memory in
  fact holds under its signature -/
  | beforeSecondClear (found : SettingsImage)
  /-- after that second clearing, and before the write had ended -/
  | afterSecondClear
  deriving DecidableEq, Repr

/-- How a write of the settings image ended (11 R182, R183). -/
inductive WriteOutcome where
  /-- every stage completed and the read-back agrees -/
  | complete
  /-- the memory stopped answering while the signature was cleared; whether the clearing had taken effect -/
  | clearFailed (cleared : Bool)
  /-- the memory stopped answering while the image was written -/
  | imageFailed
  /-- the memory stopped answering while the signature was written -/
  | signatureFailed
  /-- the memory stopped answering during the read-back; what the memory in fact holds under its signature -/
  | readBackStopped (found : SettingsImage)
  /-- the read-back differs from the copy, and the store cleared the signature again -/
  | differsCleared
  /-- the read-back differs and that clearing did not complete; what the memory in fact holds -/
  | differsKept (found : SettingsImage)
  deriving DecidableEq, Repr

end Machine

open Machine

/-- The commands, one for each row of the table, in its order. A `moment` is the timebase moment in milliseconds at which
the outside brings the event about (log 2); `bytes` are the bytes received on the line (log 1). -/
inductive Instr where
  /-- POWER_ON_RESET (R177). `cut`: where a write still in flight stood. -/
  | powerOnReset (cut : WriteCut)
  /-- SELF_TEST_END (R178). `failing`: the cells whose readings differ from what is written. -/
  | selfTestEnd (moment : Nat) (failing : List Nat)
  /-- SETTINGS_LOAD_END (R180). `answers`: whether the configuration memory answers. -/
  | settingsLoadEnd (moment : Nat) (answers : Bool)
  /-- RESTART_RESET (R168). -/
  | restartReset
  /-- TRUNK_GAP_ABANDON (R156). `bytes`: what had been received. -/
  | trunkGapAbandon (bytes : List Byte)
  /-- TIME_FRAME (R26). -/
  | timeFrame (moment : Nat) (bytes : List Byte)
  /-- COMMAND_FRAME (R161). -/
  | commandFrame (moment : Nat) (bytes : List Byte)
  /-- POLL (R158). -/
  | poll (moment : Nat) (bytes : List Byte)
  /-- SILENCE_TIMER_EXPIRY (R159). -/
  | silenceTimerExpiry
  /-- UNKNOWN_REQUEST (R162). -/
  | unknownRequest
  /-- LOAD_PERMIT (R7). -/
  | loadPermit
  /-- DROP_PERMIT (R10). -/
  | dropPermit
  /-- SUSPEND_PERMIT (R11). -/
  | suspendPermit
  /-- RESUME_PERMIT (R12). -/
  | resumePermit
  /-- REVOKE_PERMIT (R13). -/
  | revokePermit
  /-- READ_PERMIT (R17). -/
  | readPermit
  /-- PURGE_PERMITS (R18). -/
  | purgePermits
  /-- LOAD_ESCORT (R19). -/
  | loadEscort
  /-- DROP_ESCORT (R20). -/
  | dropEscort
  /-- READ_ESCORT (R21). -/
  | readEscort
  /-- CLEAR_TABLES (R22). -/
  | clearTables
  /-- SET_ROOM (R46). -/
  | setRoom
  /-- SET_ROOM_MODE (R49). -/
  | setRoomMode
  /-- READ_ROOM (R57). -/
  | readRoom
  /-- RECONCILE_ROOM (R118). -/
  | reconcileRoom
  /-- SET_PROGRAM (R128). -/
  | setProgram
  /-- CANCEL_RELEASE (R133). -/
  | cancelRelease
  /-- RESUME_ROOM (R137). -/
  | resumeRoom
  /-- REMOTE_RELEASE (R140). -/
  | remoteRelease
  /-- SET_STATION (R143). -/
  | setStation
  /-- SET_PART (R165). -/
  | setPart
  /-- CARRY (R166). -/
  | carry
  /-- READ_STATUS (R167). -/
  | readStatus
  /-- SAVE_SETTINGS (R164). `answers`: whether the configuration memory answers the probe (R182). -/
  | saveSettings (answers : Bool)
  /-- SAVE_WRITE_END (R182). -/
  | saveWriteEnd (moment : Nat) (outcome : WriteOutcome)
  /-- RESTART (R168). -/
  | restart
  /-- ASSIGN_ADDRESS (R155). -/
  | assignAddress
  /-- SECOND_TICK (R25). `staleFirst`: which of the two takers of a minute event raises its alarm first (R28, log 11). -/
  | secondTick (staleFirst : Bool)
  /-- VISIT_SEND (R146). `moment`: the last stop bit of the visit frame. -/
  | visitSend (moment : Nat)
  /-- VISIT_TIMEOUT (R150). -/
  | visitTimeout
  /-- FIELD_GAP_ABANDON (R147). `bytes`: what had been received. -/
  | fieldGapAbandon (moment : Nat) (bytes : List Byte)
  /-- FIELD_FRAME (R147). `moment`: the last byte of the frame; `began`: its start byte, from which R147 tells whether the frame
  began within the reply timeout. -/
  | fieldFrame (moment : Nat) (bytes : List Byte) (began : Nat)
  /-- HELD_TIMER_EXPIRY (R127). -/
  | heldTimerExpiry (room : RoomId)
  /-- WAIT_EXPIRY (R129). -/
  | waitExpiry (room : RoomId)
  /-- PARTY_WINDOW_EXPIRY (R94). -/
  | partyWindowExpiry (room : RoomId)
  /-- LEAD_WINDOW_EXPIRY (R93). -/
  | leadWindowExpiry (room : RoomId)
  /-- OVERLAY_EXPIRY (R53). `direction` names the room's entry or exit reader. -/
  | overlayExpiry (room : RoomId) (direction : Direction)
  /-- TRUNK_FRAME_DISCARDED (R156). -/
  | trunkFrameDiscarded (bytes : List Byte)
  /-- REPLY_SENT (R158). -/
  | replySent (moment : Nat)
  /-- POWER_LOST (R177). `cut`: where a write in flight stood. -/
  | powerLost (cut : WriteCut)
  deriving DecidableEq, Repr

end Sys2Proof
end

