-- ==== Sys2Proof/Decode.lean ====
section
/-! DEFINITION. The command that a word spells by the table's bits. The opcode table of this block gives no row any bits, so no
word spells a command. -/

namespace Sys2Proof

/-- None for every word: no row of the table has bits. -/
def decodeTableWord (_nbits _w : Nat) : Option Instr := none

end Sys2Proof
end

