-- ==== Sys2Proof/Config.lean ====
section
/-! DEFINITION. The numbers the part fixes (00 section 0.4) and the numbers the spec leaves to one chip. -/

namespace Sys2Proof.Config

/-- Cells of permit memory (01 section 1.4). -/
def permitCells : Nat := 2048
/-- Cells of one half of permit memory (01 section 1.4). -/
def halfCells : Nat := 1024
/-- Staff records the Escort Roster holds (01 R3). -/
def rosterPlaces : Nat := 256
/-- Presence records the Occupancy Roll holds in total (06 R102). -/
def rollPlaces : Nat := 64
/-- Members a party holds (05 R81). -/
def partyPlaces : Nat := 4
/-- Requests the command queue holds (09 R161). -/
def commandPlaces : Nat := 4
/-- Answers the answer queue holds (10 R173). -/
def answerPlaces : Nat := 4
/-- Alarms the alarm queue holds (10 R171). -/
def alarmPlaces : Nat := 16
/-- Items the routine queue holds (10 R174). -/
def routinePlaces : Nat := 32
/-- Items the carry-down queue holds (08 R151). -/
def carryPlaces : Nat := 8
/-- Where the routine discard count, the repeat count and the refusal count are held (00 section 0.4). -/
def countCeiling : Nat := 255
/-- Where every sum of an estate minute and minutes is held (02 R39). -/
def lastMinute : Nat := 4294967295
/-- Minute events without a TIME frame at which the time becomes STALE (02 R29). -/
def staleAfter : Nat := 1440
/-- Where the minutes-since-TIME count is held (02 R29). -/
def sinceTimeCeiling : Nat := 65535
/-- Missed visits at which a station is OFFLINE (08 R150). -/
def missesToOffline : Nat := 3
/-- Duration of a GRANTED or DENIED overlay (03 R53). -/
def overlayMillis : Nat := 3000
/-- The unit of a WAIT step (07 section 7.3). -/
def waitUnitMillis : Nat := 250
/-- Longest payload of a frame (12 section 12.1). -/
def payloadMax : Nat := 200
/-- Longest carry payload (08 R151). -/
def carryMax : Nat := 160
/-- Where the silent duration is held (09 R160). -/
def silentCeiling : Nat := 65535
/-- The fixed size of the settings image in bytes (11 R182). -/
def imageBytes : Nat := 512
/-- The trunk address of a part that has none assigned (09 R154). -/
def unassigned : Nat := 254
/-- The head-end's trunk address (09 section 9.1). -/
def headEnd : Nat := 255
/-- The largest valid credential (00 section 0.5). -/
def lastCredential : Nat := 4294967294
/-- DESIGN CHOICE, unsafe (log 4): the serial number of the chip at `State.reset`. The spec fixes it at manufacture
and gives no value; this is the one of the worked sequence in 09 section 9.8. -/
def serialNumber : Nat := 40217336

/-- DESIGN CHOICE, safe (log 20): a free value, the byte that stands for a count of records removed that no byte holds. 12 R184
sends that count as one byte, and a table can hold more than 255 records. It has no body, so that no statement rests on it. -/
opaque countPastByte : Nat → Byte

end Sys2Proof.Config
end

