-- ==== Sys2Proof/Machine/Bytes.lean ====
section
/-! DEFINITION. Byte order, the CRC and the frame envelope that both RS-485 lines share (12 R184). -/

namespace Sys2Proof.Machine

/-- A number as `n` bytes, high byte first (12 R184). -/
def bytesOf : Nat → Nat → List Byte
  | 0, _ => []
  | n + 1, x => BitVec.ofNat 8 (x / 256 ^ n) :: bytesOf n x

/-- The number that bytes spell, high byte first (12 R184). -/
def numberOf (bytes : List Byte) : Nat := bytes.foldl (fun acc b => acc * 256 + b.toNat) 0

/-- One bit entering the CRC register of the polynomial x^16 + x^12 + x^5 + 1 (12 R184). -/
def crcBit (register : BitVec 16) (bit : Bool) : BitVec 16 :=
  let shifted := register <<< 1
  if xor register.msb bit then shifted ^^^ 0x1021#16 else shifted

/-- One byte entering the CRC register, highest bit first (12 R184). -/
def crcByte (register : BitVec 16) (b : Byte) : BitVec 16 :=
  [7, 6, 5, 4, 3, 2, 1, 0].foldl (fun r i => crcBit r (b.getLsbD i)) register

/-- The CRC of bytes: the register starts at all ones and is sent as it stands (12 R184). -/
def crc (bytes : List Byte) : BitVec 16 := bytes.foldl crcByte 0xFFFF#16

/-- The start byte of every frame (12 R184). -/
def startByte : Byte := 0xA7#8

/-- The frame kinds by their codes (12 R184). -/
def kindTime : Nat := 1
def kindCommand : Nat := 2
def kindPoll : Nat := 3
def kindReply : Nat := 4
def kindVisit : Nat := 5

/-- A frame without its envelope (12 section 12.1). -/
structure Frame where
  destination : Nat
  source : Nat
  kind : Nat
  payload : List Byte
  deriving DecidableEq, Repr

/-- The bytes of a frame that the CRC covers (12 R184). -/
def Frame.covered (f : Frame) : List Byte :=
  BitVec.ofNat 8 f.destination :: BitVec.ofNat 8 f.source :: BitVec.ofNat 8 f.kind
    :: BitVec.ofNat 8 f.payload.length :: f.payload

/-- A frame in its envelope, as the part sends it (12 R184). -/
def Frame.bytes (f : Frame) : List Byte :=
  startByte :: f.covered ++ bytesOf 2 (crc f.covered).toNat

/-- What a port makes of the bytes on its line (09 R156, 08 R147). -/
inductive Received where
  /-- no start byte: every byte is discarded -/
  | nothing
  /-- a frame has begun and is not ended -/
  | incomplete
  /-- the length byte is above 200: abandoned as soon as it is received -/
  | tooLong
  /-- the CRC does not match -/
  | badCrc
  /-- a frame received whole -/
  | whole (frame : Frame)
  deriving DecidableEq, Repr

/-- Reading the line: bytes before the start byte are discarded, the length byte alone fixes where the frame ends, and
the CRC is checked over everything from the destination to the last payload byte (09 R156, 12 R184). -/
def receive (bytes : List Byte) : Received :=
  match bytes.dropWhile (fun b => b != startByte) with
  | [] => .nothing
  | _ :: destination :: source :: kind :: length :: rest =>
    if length.toNat > Config.payloadMax then .tooLong
    else if rest.length < length.toNat + 2 then .incomplete
    else
      let payload := rest.take length.toNat
      let sent := (rest.drop length.toNat).take 2
      if numberOf sent = (crc (destination :: source :: kind :: length :: payload)).toNat then
        .whole { destination := destination.toNat, source := source.toNat, kind := kind.toNat, payload := payload }
      else .badCrc
  | _ :: _ => .incomplete

end Sys2Proof.Machine
end

