-- ==== Sys2Proof/Machine/State.lean ====
section
/-! DEFINITION. The state of the Scaltor PA616 as plain data, and the state right after a power-on reset. Every item of
INVENTORY.md's list stands here under the name the spec gives it. -/

namespace Sys2Proof.Machine

/-- A timer that runs on the timebase: the duration it was started with and the moment it ends (02 R31). -/
structure Countdown where
  duration : Nat
  ends : Nat
  deriving DecidableEq, Repr

/-- A timer, stopped where `none` (02 R31). -/
abbrev Timer := Option Countdown

/-! ## Start-up (chapter 11) -/

/-- The two resets (11 section 11.1). -/
inductive ResetKind where
  | powerOn
  | restart
  deriving DecidableEq, Repr

/-- What the part is doing: held in reset, in one of the stages of STARTING, or RUNNING (11 R177). -/
inductive Phase where
  | inReset
  | selfTest (kind : ResetKind)
  | settingsLoad (kind : ResetKind)
  | running
  deriving DecidableEq, Repr

/-- One half of the retired-cell map: up to two cell numbers, and whether the half is retired whole (11 section 11.2). -/
structure HalfMap where
  cells : List Nat
  whole : Bool
  deriving DecidableEq, Repr

/-- The retired-cell map (11 section 11.2). -/
structure RetiredMap where
  low : HalfMap
  high : HalfMap
  deriving DecidableEq, Repr

/-- The condition of permit memory (11 R179). -/
inductive StoreState where
  | whole
  | reduced
  | half
  | failed
  deriving DecidableEq, Repr

/-- The serial configuration memory: its signature, and the values it holds where they are a whole image (11
section 11.3). `none`: no whole image, so that the signature alone decides (log 5, log 30). -/
structure ConfigMemory where
  signature : Bool
  image : Option SettingsImage
  deriving DecidableEq, Repr

/-- What the last settings load found (11 R180). -/
structure LoadResult where
  memoryPresent : Bool
  imageValid : Bool
  deriving DecidableEq, Repr

/-! ## Settings (chapters 3, 7, 8, 9) -/

/-- How many zone groups count (03 section 3.1). -/
inductive GroupMode where
  | groups16
  | groups32
  deriving DecidableEq, Repr

/-- What becomes of a presentation at an address without a position (03 R56). -/
inductive ReaderPolicy where
  | forward
  | drop
  deriving DecidableEq, Repr

/-- The field line speed (08 R144). -/
inductive LineSpeed where
  | baud38400
  | baud57600
  | baud115200
  deriving DecidableEq, Repr

/-- The nine part-wide settings (09 section 9.6.1). -/
structure PartSettings where
  epochWeekday : Nat
  groupMode : GroupMode
  shift : Nat
  repeatSuppression : Nat
  readerPolicy : ReaderPolicy
  escortWindow : Nat
  lineSpeed : LineSpeed
  replyTimeout : Nat
  trunkSilence : Nat
  deriving DecidableEq, Repr

/-- How a second entry of a person already inside is treated (03 section 3.1). -/
inductive Passback where
  | hard
  | soft
  deriving DecidableEq, Repr

/-- The twelve settings of a room record (03 section 3.1). An address 0 stands for none. -/
structure RoomSettings where
  enabled : Bool
  roomCode : Nat
  entryReader : Nat
  exitReader : Nat
  lockDriver : Nat
  occupancyLimit : Nat
  passback : Passback
  heldLimit : Nat
  dwellOffset : Int
  checkInInterval : Nat
  entryProgram : ProgramId
  exitProgram : ProgramId
  deriving DecidableEq, Repr

/-- What a station is (08 section 8.1). -/
inductive StationKind where
  | reader
  | lockDriver
  deriving DecidableEq, Repr

/-- The two fields of a station entry that the settings image holds (08 section 8.1). -/
structure StationSettings where
  kind : StationKind
  enabled : Bool
  deriving DecidableEq, Repr

/-- One step of a release program (07 section 7.3). -/
inductive Step where
  | unlock
  | lock
  | sounderOn
  | sounderOff
  | beaconOn
  | beaconOff
  | shuntOn
  | shuntOff
  | wait (units : Nat)
  deriving DecidableEq, Repr

/-- Everything the settings image restores but the trunk address (11 section 11.3). -/
structure Settings where
  part : PartSettings
  rooms : Vector RoomSettings 6
  stations : Vector StationSettings 16
  programs : Vector (List Step) 8
  deriving DecidableEq, Repr

/-! ## Permit Table and Escort Roster (chapter 1) -/

inductive PermitState where
  | active
  | suspended
  | revoked
  deriving DecidableEq, Repr

/-- Which issue level of the card is accepted (01 section 1.1). -/
inductive IssueLock where
  | off
  | learn
  | fixed (level : Nat)
  deriving DecidableEq, Repr

/-- The company a grant's holder must enter with (01 section 1.1.1). -/
inductive EscortRule where
  | none
  | pair
  | staff
  deriving DecidableEq, Repr

/-- One grant entry (01 section 1.1.1). -/
structure Grant where
  zoneMask : ZoneMask
  validFrom : Nat
  validUntil : Nat
  opens : Nat
  closes : Nat
  weekdays : BitVec 8
  rule : EscortRule
  maxStay : Nat
  deriving DecidableEq, Repr

/-- A permit record (01 section 1.1) with the cells of permit memory it uses (01 section 1.4). -/
structure Permit where
  permitNumber : Nat
  credential : Nat
  company : Nat
  state : PermitState
  lock : IssueLock
  grants : List Grant
  lastEntry : Option Nat
  headerCell : Nat
  grantCells : List Nat
  deriving DecidableEq, Repr

/-- A staff record (01 section 1.2). -/
structure Staff where
  credential : Nat
  staffNumber : Nat
  zoneMask : ZoneMask
  ratio : Nat
  mayEnterAlone : Bool
  active : Bool
  deriving DecidableEq, Repr

/-! ## Estate Clock (chapter 2) -/

inductive TimeState where
  | unset
  | set
  | stale
  deriving DecidableEq, Repr

/-- The Estate Clock (02 section 2.1). `nextCount` is the timebase moment of the next second count (02 R25, R26). -/
structure Clock where
  minute : Nat
  second : Nat
  timeState : TimeState
  sinceTime : Nat
  lastTime : Option Nat
  nextCount : Nat
  deriving DecidableEq, Repr

/-! ## Room Table (chapter 3) -/

inductive RoomMode where
  | normal
  | contractorHold
  | locked
  deriving DecidableEq, Repr

inductive RollState where
  | exact
  | uncertain
  deriving DecidableEq, Repr

/-- The indication images (03 section 3.7). -/
inductive Indication where
  | idle
  | granted
  | denied
  | wait
  | lockedOut
  deriving DecidableEq, Repr

/-- The two images a verdict lays over the base (03 R53). -/
inductive OverlayImage where
  | granted
  | denied
  deriving DecidableEq, Repr

/-- An overlay with its running timer (03 R53). -/
structure Overlay where
  image : OverlayImage
  timer : Countdown
  deriving DecidableEq, Repr

/-- The run-time state of a room record (03 section 3.1). The indication images are views (`State.entryImage`,
`State.exitImage`) of the overlays and of the base. -/
structure RoomState where
  zoneIndex : Nat
  mode : RoomMode
  rollState : RollState
  entryOverlay : Option Overlay
  exitOverlay : Option Overlay
  deriving DecidableEq, Repr

/-- The last presentation taken at a field address (03 R55). -/
structure LastPresentation where
  credential : Nat
  moment : Nat
  deriving DecidableEq, Repr

/-! ## Party Unit (chapter 5) -/

/-- A waiting contractor (05 section 5.1). -/
structure Member where
  credential : Nat
  permitNumber : Nat
  grantIndex : Nat
  rule : EscortRule
  company : Nat
  allowance : Nat
  issueLevel : Nat
  deriving DecidableEq, Repr

/-- A party's rule, with the company code that PAIR fixes and STAFF does not hold (05 section 5.1). -/
inductive PartyRule where
  | staff
  | pair (company : Nat)
  deriving DecidableEq, Repr

structure Party where
  rule : PartyRule
  members : List Member
  window : Countdown
  deriving DecidableEq, Repr

inductive LeadKind where
  | entered
  | waiting
  deriving DecidableEq, Repr

structure Lead where
  staff : Nat
  kind : LeadKind
  issueLevel : Nat
  window : Countdown
  deriving DecidableEq, Repr

/-- The slot of a room: never a party and a lead at once (05 R81). -/
inductive Slot where
  | empty
  | party (p : Party)
  | lead (l : Lead)
  deriving DecidableEq, Repr

/-! ## Occupancy Roll (chapter 6) -/

/-- A check-in deadline: absent, armed, or spent (06 R111, R121). -/
inductive CheckIn where
  | absent
  | armed (deadline : Nat)
  | spent (deadline : Nat)
  deriving DecidableEq, Repr

/-- The fields only a contractor's presence record holds (06 section 6.1). -/
structure ContractorPart where
  permitNumber : Nat
  grantIndex : Nat
  rule : EscortRule
  company : Nat
  stayDeadline : Nat
  checkIn : CheckIn
  escort : Option Nat
  partner : Option Nat
  overstayRaised : Bool
  checkInOverdue : Nat
  unescorted : Bool
  withdrawn : Bool
  deriving DecidableEq, Repr

/-- A presence record; of class STAFF where `contractor` is absent (06 R103). -/
structure Presence where
  room : RoomId
  credential : Nat
  entryMinute : Nat
  entrySecond : Nat
  contractor : Option ContractorPart
  deriving DecidableEq, Repr

/-! ## Door Control (chapter 7) -/

/-- The door states; OPEN is `opened` (07 section 7.1). -/
inductive DoorState where
  | secure
  | released
  | opened
  | held
  | forced
  | fault
  | faultHold
  deriving DecidableEq, Repr

/-- The output image (07 section 7.1). -/
structure OutputImage where
  unlocked : Bool
  sounder : Bool
  beacon : Bool
  shunt : Bool
  deriving DecidableEq, Repr

inductive FaultCause where
  | reported
  | offline
  deriving DecidableEq, Repr

/-- A running release program: its kind and number, its copy of the steps, and the number of the current step (07
section 7.1). -/
structure RunningProgram where
  kind : Direction
  number : ProgramId
  steps : List Step
  current : Nat
  deriving DecidableEq, Repr

structure Door where
  state : DoorState
  image : OutputImage
  program : Option RunningProgram
  waitTimer : Timer
  heldTimer : Timer
  cause : Option FaultCause
  deriving DecidableEq, Repr

/-! ## Field Port (chapter 8) -/

inductive OnlineState where
  | unknown
  | online
  | offline
  deriving DecidableEq, Repr

/-- The run-time fields of a station entry (08 section 8.1). -/
structure StationState where
  online : OnlineState
  missed : Nat
  deriving DecidableEq, Repr

/-- An item of the carry-down queue (08 R151). -/
structure CarryItem where
  station : StationId
  tag : Nat
  payload : List Byte
  riding : Bool
  deriving DecidableEq, Repr

/-- The outstanding visit: the frame as it was sent, the speed it was sent at and its reply timeout (08 R144, R146). -/
structure Visit where
  station : StationId
  frame : List Byte
  speed : LineSpeed
  timeout : Countdown
  deriving DecidableEq, Repr

/-- The rotation and the carry-down queue (08 R145, R151). -/
structure FieldPort where
  visit : Option Visit
  chosen : Option StationId
  lastVisited : Option StationId
  carryDown : List CarryItem
  deriving DecidableEq, Repr

/-! ## Trunk Port and Management Executor (chapter 9) -/

inductive LinkState where
  | online
  | silent
  deriving DecidableEq, Repr

/-- An entry of the command queue: the tag, the request name as received and the request's field bytes (09 R161). -/
structure Request where
  tag : Nat
  name : Nat
  body : List Byte
  deriving DecidableEq, Repr

/-- The reply frame being sent, and whether it carries the RESTART answer (09 R158, R168). -/
structure SendingReply where
  frame : List Byte
  carriesRestart : Bool
  deriving DecidableEq, Repr

structure TrunkPort where
  address : Nat
  link : LinkState
  silenceTimer : Timer
  silentSince : Option Nat
  commands : List Request
  refusals : Nat
  reply : Option SendingReply
  deriving DecidableEq, Repr

/-- What the executor holds (09 R162, R164, R168). -/
inductive Executor where
  /-- no request -/
  | free
  /-- a SAVE SETTINGS whose write is in flight, with its tag and the store's copy of the image (11 R182) -/
  | saving (tag : Nat) (copy : SettingsImage)
  /-- a RESTART was answered: no further request is taken -/
  | restarting
  /-- the reply carrying that answer has been sent -/
  | restartSent
  deriving DecidableEq, Repr

/-! ## Report items (chapter 10) -/

/-- Outcomes in the order of the table in 04 section 4.9. -/
inductive VerdictOutcome where
  | grant
  | deny
  | pending
  | pendingLead
  | leadTimeout
  | exit
  | exitOther
  | exitUnmatched
  | checkInOk
  | checkInUnmatched
  deriving DecidableEq, Repr

/-- Reasons in the order of their codes (12 R186). -/
inductive Reason where
  | none
  | badCredential
  | roomLocked
  | doorFault
  | noPermit
  | escortInactive
  | wrongZone
  | alreadyInside
  | roomHold
  | timeUnknown
  | suspended
  | revoked
  | issueMismatch
  | notYetValid
  | expired
  | outsideHours
  | roomFull
  | rollFull
  | partyBusy
  | partyFull
  | escortRatio
  | escortTimeout
  deriving DecidableEq, Repr

/-- What the holder asked for at the reader (04 section 4.1). -/
inductive Intent where
  | pass
  | checkIn
  deriving DecidableEq, Repr

/-- A VERDICT item (04 R78, 10 R175). `intent` is held because R60 says it is reported; the layout of R186 has no byte for
it (log 13). `removed` is the room and the entry minute of the record an exit removed. -/
structure Verdict where
  minute : Nat
  second : Nat
  stale : Bool
  place : Option (RoomId × Direction)
  reader : Nat
  credential : Nat
  issueLevel : Nat
  intent : Option Intent
  outcome : VerdictOutcome
  reason : Reason
  permitNumber : Option Nat
  grantIndex : Option Nat
  escort : Option Nat
  allowance : Option Nat
  partySize : Option Nat
  removed : Option (RoomId × Nat)
  deriving DecidableEq, Repr

/-- Why a carry item left undelivered (08 R152). -/
inductive CarryCause where
  | noReply
  | badReply
  | stationDisabled
  deriving DecidableEq, Repr

/-- A routine item (10 R175). -/
inductive RoutineItem where
  | verdict (v : Verdict)
  | carryUpPayload (minute : Nat) (second : Nat) (station : Nat) (payload : List Byte)
  | carryUpPresentation (minute : Nat) (second : Nat) (station : Nat) (credential : Nat) (issueLevel : Nat)
      (intent : Intent)
  | carryFailed (minute : Nat) (second : Nat) (station : Nat) (tag : Nat) (length : Nat) (cause : CarryCause)
  deriving DecidableEq, Repr

/-- The alarm kinds in the order of the table of 10 R176. -/
inductive AlarmKind where
  | doorForced
  | doorHeld
  | doorFault
  | overstay
  | loneWorkerOverdue
  | escortLeft
  | partnerLeft
  | permitWithdrawnInside
  | issueConflict
  | passback
  | stationOffline
  | stationOnline
  | linkRestored
  | timeStale
  | startUp
  deriving DecidableEq, Repr

/-- Why a record left the roll (06 section 6.4). -/
inductive DepartureCause where
  | exit
  | exitOther
  | passback
  | reconcile
  deriving DecidableEq, Repr

/-- The detail proper to each alarm kind (10 R176). -/
inductive AlarmDetail where
  | doorForced (records : Nat) (running : Bool)
  | doorHeld (limitSeconds : Nat) (running : Bool)
  | doorFault (cause : FaultCause) (before : DoorState)
  | overstay (permitNumber : Nat) (entryMinute stayDeadline : Nat) (unescorted withdrawn : Bool)
  | loneWorkerOverdue (which : Nat) (deadline : Nat) (interval : Nat)
  | escortLeft (staff : Nat) (cause : DepartureCause)
  | partnerLeft (partner : Nat) (cause : DepartureCause)
  | permitWithdrawnInside (state : PermitState) (permitNumber : Nat) (stayDeadline : Nat)
  | issueConflict (presented fixed permitNumber : Nat)
  | passback (room : RoomId) (entryMinute : Nat)
  | stationOffline (kind : StationKind) (before : OnlineState) (cause : CarryCause)
  | stationOnline (kind : StationKind) (misses : Nat)
  | linkRestored (seconds : Nat)
  | timeStale (minute : Nat) (lastTime : Option Nat)
  | startUp (store : StoreState) (retired : Nat)
  deriving DecidableEq, Repr

/-- An alarm item (10 R176). -/
structure Alarm where
  minute : Nat
  second : Nat
  room : Option RoomId
  credential : Option Nat
  station : Option Nat
  repeats : Nat
  detail : AlarmDetail
  deriving DecidableEq, Repr

/-- Answer statuses in the order of their codes (12 R186). -/
inductive Status where
  | done
  | notFound
  | noRoom
  | badValue
  | conflict
  | inUse
  | notAllowed
  | noStore
  deriving DecidableEq, Repr

/-- INSERTED or REPLACED (01 R8, R9). -/
inductive LoadKind where
  | inserted
  | replaced
  deriving DecidableEq, Repr

/-- Where a holder is (01 R17, R21). -/
inductive Position where
  | outside
  | inside (room : RoomId)
  | inParty (room : RoomId)
  | leading (room : RoomId) (kind : LeadKind)
  deriving DecidableEq, Repr

/-- The place an address holds in a room (03 R44). -/
inductive Place where
  | entryReader
  | exitReader
  | lockDriver
  deriving DecidableEq, Repr

/-- What a slot holds, as the READ requests report it (03 R57, 09 R167). -/
inductive SlotPicture where
  | neither
  | party (members : Nat)
  | lead (kind : LeadKind)
  deriving DecidableEq, Repr

/-- The picture of one room that READ ROOM answers with (03 R57). -/
structure RoomPicture where
  settings : RoomSettings
  zoneIndex : Nat
  mode : RoomMode
  rollState : RollState
  door : DoorState
  running : Bool
  entryImage : Indication
  exitImage : Indication
  slot : SlotPicture
  total : Nat
  records : List Presence
  deriving DecidableEq, Repr

/-- One room's line in READ STATUS (09 R167). -/
structure RoomStatus where
  enabled : Bool
  mode : RoomMode
  rollState : RollState
  records : Nat
  door : DoorState
  slot : SlotPicture
  deriving DecidableEq, Repr

/-- One station's line in READ STATUS (09 R167). -/
structure StationStatus where
  kind : StationKind
  enabled : Bool
  online : OnlineState
  missed : Nat
  deriving DecidableEq, Repr

/-- The picture of the part that READ STATUS answers with (09 R167). -/
structure StatusPicture where
  serial : Nat
  address : Nat
  memoryPresent : Bool
  imageValid : Bool
  store : StoreState
  cellsUsed : Nat
  cellsFree : Nat
  cellsRetired : Nat
  permits : Nat
  staff : Nat
  presences : Nat
  rooms : List RoomStatus
  stations : List StationStatus
  commandItems : Nat
  answerItems : Nat
  alarmItems : Nat
  routineItems : Nat
  carryItems : Nat
  overflow : Bool
  discards : Nat
  refusals : Nat
  link : LinkState
  minute : Nat
  second : Nat
  timeState : TimeState
  sinceTime : Nat
  part : PartSettings
  deriving DecidableEq, Repr

/-- The stage a failed save names (11 R182, R183). -/
inductive SaveStage where
  | probe
  | clear
  | image
  | signature
  | verify
  deriving DecidableEq, Repr

/-- What a release request did (07 R140). -/
inductive ReleaseResult where
  | started
  | restarted
  | empty
  deriving DecidableEq, Repr

/-- The data of an answer, as each request's rule lists it. -/
inductive AnswerData where
  | nothing
  | badField (position : Nat)
  | unknownName (name : Nat)
  | addressTaken (position : Nat) (room : RoomId) (place : Place)
  | addressRefused (position : Nat)
  | heldByRoster
  | heldByPermits
  | permitLoaded (kind : LoadKind) (cells free : Nat)
  | cellsShort (needed available : Nat)
  | cellsFreed (cells : Nat)
  | holderAt (position : Position)
  | previousPermitState (state : PermitState)
  | permitPicture (record : Permit) (cells : Nat) (position : Position)
  | purged (records cells : Nat)
  | staffInserted (held : Nat)
  | staffReplaced
  | staffHeld (held : Nat)
  | staffPicture (record : Staff) (position : Position) (linked : Nat)
  | tablesInUse (presences parties leads : Nat)
  | tablesCleared (permits staff free : Nat)
  | roomInUse (records : Nat) (party lead : Bool)
  | roomSet (zoneIndex : Nat) (enabled : Bool)
  | previousMode (mode : RoomMode)
  | room (picture : RoomPicture)
  | reconciled (removed kept ignored : Nat)
  | programSet (steps rooms : Nat)
  | cancelled (program : Option (Direction × ProgramId))
  | doorIs (state : DoorState)
  | releaseRefused (mode : RoomMode) (state : DoorState)
  | release (program : ProgramId) (result : ReleaseResult)
  | stationSet (state : OnlineState) (missed : Nat)
  | partiesPending (parties : Nat)
  | partSet (changed : List Bool) (zones : Option (List Nat))
  | carryFull (forStation : Nat)
  | carryQueued (items forStation : Nat)
  | status (picture : StatusPicture)
  | saveFailed (stage : SaveStage)
  | saved (bytes : Nat)
  | addressHeld (address : Nat)
  | addressSet (address serial : Nat)
  deriving DecidableEq, Repr

/-- An answer (10 R173): the tag and request name as received, the status and the data. -/
structure Answer where
  tag : Nat
  name : Nat
  status : Status
  data : AnswerData
  deriving DecidableEq, Repr

/-- The three report queues with the overflow flag and the discard count (10 R171 to R174). -/
structure Reports where
  alarms : List Alarm
  answers : List Answer
  routine : List RoutineItem
  overflow : Bool
  discards : Nat
  deriving DecidableEq, Repr

/-- The whole block. -/
structure State where
  /-- the commands that wait, first in, first out (the model's own queue) -/
  pending : List Instr
  phase : Phase
  /-- the timebase, in milliseconds since the last reset (02 R31) -/
  now : Nat
  serial : Nat
  memory : ConfigMemory
  loadResult : LoadResult
  settings : Settings
  retired : RetiredMap
  permits : List Permit
  roster : List Staff
  clock : Clock
  rooms : Vector RoomState 6
  slots : Vector Slot 6
  roll : List Presence
  doors : Vector Door 6
  stations : Vector StationState 16
  field : FieldPort
  trunk : TrunkPort
  executor : Executor
  reports : Reports
  lastSeen : Vector (Option LastPresentation) 16
  deriving DecidableEq, Repr

/-- The reasons a step could stop with a fault. The spec describes nothing that stops the part but the loss of its supply or
the reset input, and that is the command POWER_LOST; so there is no constructor, and no command faults. -/
inductive Fault where
  deriving DecidableEq, Repr

/-- The reasons a command could be refused by the model. -/
inductive Refusal where
  /-- Raised by `exec` alone, for a row whose meaning is not written yet. Safe: the machine stops. -/
  | notModelled (mnemonic : String)
  deriving DecidableEq, Repr

/-! ## The values at reset -/

/-- The defaults of the part-wide settings (09 section 9.6.1). -/
def PartSettings.default : PartSettings :=
  { epochWeekday := 0, groupMode := .groups16, shift := 0, repeatSuppression := 4, readerPolicy := .forward,
    escortWindow := 20, lineSpeed := .baud57600, replyTimeout := 20, trunkSilence := 10 }

/-- The defaults of a room record (03 section 3.1). -/
def RoomSettings.default : RoomSettings :=
  { enabled := false, roomCode := 0, entryReader := 0, exitReader := 0, lockDriver := 0, occupancyLimit := 4,
    passback := .hard, heldLimit := 30, dwellOffset := 0, checkInInterval := 0, entryProgram := 0, exitProgram := 0 }

/-- The defaults of a station entry (08 R142). -/
def StationSettings.default : StationSettings := { kind := .reader, enabled := false }

/-- The release programs where the image is not valid (07 section 7.3). -/
def defaultPrograms : Vector (List Step) 8 :=
  put (Vector.replicate 8 []) 0 [.unlock, .wait 20, .lock]

/-- Every setting at its default (11 R180). -/
def Settings.default : Settings :=
  { part := PartSettings.default
    rooms := Vector.replicate 6 RoomSettings.default
    stations := Vector.replicate 16 StationSettings.default
    programs := defaultPrograms }

/-- A room's door at every reset (07 R122). -/
def Door.atReset : Door :=
  { state := .secure, image := { unlocked := false, sounder := false, beacon := false, shunt := false },
    program := none, waitTimer := none, heldTimer := none, cause := none }

/-- A room's run-time state at every reset, with its zone index (03 R41). -/
def RoomState.atReset (zoneIndex : Nat) : RoomState :=
  { zoneIndex := zoneIndex, mode := .normal, rollState := .uncertain, entryOverlay := none, exitOverlay := none }

/-- A station's run-time fields at every reset (08 R142). -/
def StationState.atReset : StationState := { online := .unknown, missed := 0 }

/-- The Estate Clock at every reset; its first second is counted at `nextCount` (02 R24). -/
def Clock.atReset (nextCount : Nat) : Clock :=
  { minute := 0, second := 0, timeState := .unset, sinceTime := 0, lastTime := none, nextCount := nextCount }

/-- The Field Port at every reset (08 R142). -/
def FieldPort.atReset : FieldPort := { visit := none, chosen := none, lastVisited := none, carryDown := [] }

/-- The Trunk Port at every reset, with its address (09 R154, R159, R161). -/
def TrunkPort.atReset (address : Nat) : TrunkPort :=
  { address := address, link := .online, silenceTimer := none, silentSince := none, commands := [], refusals := 0,
    reply := none }

/-- The report queues at every reset (10 R171 to R174). -/
def Reports.atReset : Reports := { alarms := [], answers := [], routine := [], overflow := false, discards := 0 }

/-- A half of permit memory with no cell retired. -/
def HalfMap.clear : HalfMap := { cells := [], whole := false }

/-- The retired-cell map when a self-test begins (11 section 11.2). -/
def RetiredMap.clear : RetiredMap := { low := HalfMap.clear, high := HalfMap.clear }

/-- The part right after a power-on reset: STARTING, at the beginning of its self-test (11 R177), every item of state at
the value its rule gives for a reset and the settings at their defaults until the load ends (log 3). The configuration
memory holds no valid image (DESIGN CHOICE, log 5) and the serial number is `Config.serialNumber` (DESIGN CHOICE, log 4). -/
def State.reset : State :=
  { pending := []
    phase := .selfTest .powerOn
    now := 0
    serial := Config.serialNumber
    memory := { signature := false, image := none }
    loadResult := { memoryPresent := false, imageValid := false }
    settings := Settings.default
    retired := RetiredMap.clear
    permits := []
    roster := []
    clock := Clock.atReset 1000
    rooms := Vector.replicate 6 (RoomState.atReset 0)
    slots := Vector.replicate 6 .empty
    roll := []
    doors := Vector.replicate 6 Door.atReset
    stations := Vector.replicate 16 StationState.atReset
    field := FieldPort.atReset
    trunk := TrunkPort.atReset Config.unassigned
    executor := .free
    reports := Reports.atReset
    lastSeen := Vector.replicate 16 none }

end Sys2Proof.Machine
end

