-- ==== Sys2Proof/Machine/Windows.lean ====
section
/-! DEFINITION. The arithmetic of estate minutes: sums held at the ceiling, calendar values, grant windows and allowances
(chapter 2), zone indices and zone tests (chapter 3), and the choice among grants (chapter 4). -/

namespace Sys2Proof.Machine

/-- A sum of an estate minute and a number of minutes, held at 4,294,967,295 (02 R39). -/
def addMinutes (t n : Nat) : Nat := min (t + n) Config.lastMinute

/-- `clamp(x, a, b)` (00 section 0.6). -/
def clamp (x a b : Int) : Int := max a (min x b)

/-- A count raised by 1 and held at 255 (00 section 0.4). -/
def countUp (n : Nat) : Nat := min (n + 1) Config.countCeiling

/-! ## Calendar (02 R32) -/

/-- The minute of day m. -/
def minuteOfDay (t : Nat) : Nat := t % 1440

/-- The day number d. -/
def dayNumber (t : Nat) : Nat := t / 1440

/-- The weekday w, 0 for Monday. -/
def weekday (epochWeekday : Nat) (t : Nat) : Nat := (dayNumber t + epochWeekday) % 7

/-! ## Windows of a grant (02 R33 to R38) -/

/-- `x mod 1440`, 0 to 1439 also for negative x (00 section 0.6). -/
def modDay (x : Int) : Nat := (x % 1440).toNat

/-- The length L of a daily window (02 R33). -/
def windowLength (opens closes : Nat) : Nat :=
  if modDay ((closes : Int) - opens) = 0 then 1440 else modDay ((closes : Int) - opens)

/-- The elapsed minutes e of a daily window at minute of day m (02 R33). -/
def windowElapsed (opens m : Nat) : Nat := modDay ((m : Int) - opens)

/-- The daily window test (02 R33). -/
def inDailyWindow (g : Grant) (t : Nat) : Bool :=
  windowElapsed g.opens (minuteOfDay t) < windowLength g.opens g.closes

/-- The remaining minutes r of the daily window (02 R34). -/
def dailyRemaining (g : Grant) (t : Nat) : Nat :=
  windowLength g.opens g.closes - windowElapsed g.opens (minuteOfDay t)

/-- The opening weekday (02 R35). -/
def openingWeekday (epochWeekday : Nat) (g : Grant) (t : Nat) : Nat :=
  if g.opens ≤ minuteOfDay t then weekday epochWeekday t else (weekday epochWeekday t + 6) % 7

/-- The weekday test (02 R35). -/
def onWeekday (epochWeekday : Nat) (g : Grant) (t : Nat) : Bool :=
  g.weekdays.getLsbD (openingWeekday epochWeekday g t)

/-- The date test (02 R36). -/
def inDateWindow (g : Grant) (t : Nat) : Bool := g.validFrom ≤ t && t < g.validUntil

/-- The remaining minutes v of the date window (02 R36). -/
def dateRemaining (g : Grant) (t : Nat) : Nat := g.validUntil - t

/-! ## Zones (03 R42, R43) -/

/-- G, the number of zone groups. -/
def GroupMode.size : GroupMode → Nat
  | .groups16 => 16
  | .groups32 => 32

/-- The zone index of a room code (03 R42). -/
def zoneIndexOf (part : PartSettings) (roomCode : Nat) : Nat :=
  roomCode / 2 ^ part.shift % part.groupMode.size

/-- The zone test: the bit of the zone index, among the bits that count (03 R43). -/
def zoneTest (groups : GroupMode) (zone : Nat) (mask : ZoneMask) : Bool :=
  zone < groups.size && mask.getLsbD zone

/-! ## Applicability, allowance and choice (02 R37, R38; 04 R68, R69) -/

/-- All four tests of a grant (02 R37). -/
def applies (part : PartSettings) (zone : Nat) (g : Grant) (t : Nat) : Bool :=
  zoneTest part.groupMode zone g.zoneMask && inDateWindow g t && onWeekday part.epochWeekday g t && inDailyWindow g t

/-- The allowance A of a grant that applies (02 R38). -/
def allowanceOf (g : Grant) (t : Nat) : Nat := min g.maxStay (min (dailyRemaining g t) (dateRemaining g t))

/-- The grant carried forward from the choice (04 R68). -/
structure Chosen where
  index : Nat
  rule : EscortRule
  allowance : Nat
  deriving DecidableEq, Repr

/-- Least demanding first (04 R68). -/
def EscortRule.demand : EscortRule → Nat
  | .none => 0
  | .pair => 1
  | .staff => 2

/-- Whether a later grant is preferred to the one held so far: by rule, then by allowance; equal keys keep the lower
index (04 R68). -/
def Chosen.betterThan (new old : Chosen) : Bool :=
  new.rule.demand < old.rule.demand || (new.rule.demand == old.rule.demand && old.allowance < new.allowance)

/-- The choice over the grants that apply, in index order (04 R68). -/
def chooseFrom (part : PartSettings) (zone : Nat) (t : Nat) : Nat → List Grant → Option Chosen → Option Chosen
  | _, [], best => best
  | i, g :: rest, best =>
    let best' :=
      if applies part zone g t then
        let c : Chosen := { index := i, rule := g.rule, allowance := allowanceOf g t }
        match best with
        | none => some c
        | some b => if c.betterThan b then some c else some b
      else best
    chooseFrom part zone t (i + 1) rest best'

/-- The chosen grant of a permit, if any applies (04 R68). -/
def chooseGrant (part : PartSettings) (zone : Nat) (t : Nat) (grants : List Grant) : Option Chosen :=
  chooseFrom part zone t 1 grants none

/-- The stage of a grant that does not apply, and its reason (04 R69). -/
def grantStage (part : PartSettings) (zone : Nat) (g : Grant) (t : Nat) : Nat × Reason :=
  if !zoneTest part.groupMode zone g.zoneMask then (1, .wrongZone)
  else if t < g.validFrom then (2, .notYetValid)
  else if g.validUntil ≤ t then (2, .expired)
  else (3, .outsideHours)

/-- The highest stage among the grants, ties to the lowest index: index, stage and reason (04 R69). -/
def denialFrom (part : PartSettings) (zone : Nat) (t : Nat) :
    Nat → List Grant → Option (Nat × Nat × Reason) → Option (Nat × Nat × Reason)
  | _, [], best => best
  | i, g :: rest, best =>
    let (stage, reason) := grantStage part zone g t
    let best' :=
      match best with
      | none => some (i, stage, reason)
      | some (j, k, r) => if k < stage then some (i, stage, reason) else some (j, k, r)
    denialFrom part zone t (i + 1) rest best'

/-- The grant index and reason of a denial where no grant applies (04 R69). -/
def denialOf (part : PartSettings) (zone : Nat) (t : Nat) (grants : List Grant) : Option (Nat × Reason) :=
  (denialFrom part zone t 1 grants none).map fun (i, _, r) => (i, r)

end Sys2Proof.Machine
end

