-- ==== Sys2Proof/Machine/Settings.lean ====
section
/-! DEFINITION. The settings as numbers and as values: the range checks that SET PART, SET ROOM, SET STATION and SET PROGRAM
make and that the settings load makes of an image (11 R180), and the two ways of writing settings down. -/

namespace Sys2Proof.Machine

/-- The position of the first check that fails, counted from `start`. -/
def firstBad (start : Nat) (checks : List Bool) : Option Nat :=
  (checks.findIdx? (fun ok => !ok)).map (· + start)

/-- `low ≤ x ≤ high` as a Bool. -/
def within (low x high : Nat) : Bool := low ≤ x && x ≤ high

/-! ## Part settings (09 section 9.6.1) -/

/-- The first of the nine settings outside its range, counted from 1 (09 R165). -/
def PartFields.firstBad (f : PartFields) : Option Nat :=
  Machine.firstBad 1
    [within 0 f.epochWeekday 6, f.groupMode == 16 || f.groupMode == 32, within 0 f.shift 7,
     within 0 f.repeatSuppression 10, within 0 f.readerPolicy 1, within 5 f.escortWindow 60, within 0 f.lineSpeed 2,
     within 5 f.replyTimeout 100, within 1 f.trunkSilence 60]

/-- The speed of a code (12 R184). -/
def speedOfCode : Nat → LineSpeed
  | 0 => .baud38400
  | 1 => .baud57600
  | _ => .baud115200

/-- The code of a speed (12 R184). -/
def LineSpeed.code : LineSpeed → Nat
  | .baud38400 => 0
  | .baud57600 => 1
  | .baud115200 => 2

/-- The settings that checked fields name. -/
def PartFields.value (f : PartFields) : PartSettings :=
  { epochWeekday := f.epochWeekday
    groupMode := if f.groupMode = 16 then .groups16 else .groups32
    shift := f.shift
    repeatSuppression := f.repeatSuppression
    readerPolicy := if f.readerPolicy = 0 then .forward else .drop
    escortWindow := f.escortWindow
    lineSpeed := speedOfCode f.lineSpeed
    replyTimeout := f.replyTimeout
    trunkSilence := f.trunkSilence }

/-- Part settings as fields (12 R184). -/
def PartSettings.fields (p : PartSettings) : PartFields :=
  { epochWeekday := p.epochWeekday
    groupMode := p.groupMode.size
    shift := p.shift
    repeatSuppression := p.repeatSuppression
    readerPolicy := match p.readerPolicy with
      | .forward => 0
      | .drop => 1
    escortWindow := p.escortWindow
    lineSpeed := p.lineSpeed.code
    replyTimeout := p.replyTimeout
    trunkSilence := p.trunkSilence }

/-! ## Room settings (03 section 3.1) -/

/-- The number a byte spells in two's complement (12 R184). -/
def signedByte (n : Nat) : Int := if n < 128 then n else (n : Int) - 256

/-- A number as the byte of its two's complement (12 R184); 256, which is no byte and which every range check refuses, where
it has none. -/
def byteOfSigned (x : Int) : Nat := if -128 ≤ x ∧ x ≤ 127 then (x % 256).toNat else 256

/-- The first of the twelve settings outside its range, counted from 1 in the table's order (03 R46). -/
def RoomFields.firstBad (f : RoomFields) : Option Nat :=
  Machine.firstBad 1
    [within 0 f.enabled 1, within 0 f.roomCode 4095, within 0 f.entryReader 16, within 0 f.exitReader 16,
     within 0 f.lockDriver 16, within 1 f.occupancyLimit 24, within 0 f.passback 1, within 5 f.heldLimit 600,
     f.dwellOffset ≤ 255 && (-64 ≤ signedByte f.dwellOffset && signedByte f.dwellOffset ≤ 63),
     within 0 f.checkInInterval 120, within 0 f.entryProgram 7, within 0 f.exitProgram 7]

/-- The settings that checked fields name. -/
def RoomFields.value (f : RoomFields) : RoomSettings :=
  { enabled := f.enabled = 1
    roomCode := f.roomCode
    entryReader := f.entryReader
    exitReader := f.exitReader
    lockDriver := f.lockDriver
    occupancyLimit := f.occupancyLimit
    passback := if f.passback = 0 then .hard else .soft
    heldLimit := f.heldLimit
    dwellOffset := signedByte f.dwellOffset
    checkInInterval := f.checkInInterval
    entryProgram := Fin.ofNat 8 f.entryProgram
    exitProgram := Fin.ofNat 8 f.exitProgram }

/-- A yes or no value as its byte (12 R184). -/
def yesNo (b : Bool) : Nat := if b then 1 else 0

/-- Room settings as fields (12 R184). -/
def RoomSettings.fields (r : RoomSettings) : RoomFields :=
  { enabled := yesNo r.enabled
    roomCode := r.roomCode
    entryReader := r.entryReader
    exitReader := r.exitReader
    lockDriver := r.lockDriver
    occupancyLimit := r.occupancyLimit
    passback := match r.passback with
      | .hard => 0
      | .soft => 1
    heldLimit := r.heldLimit
    dwellOffset := byteOfSigned r.dwellOffset
    checkInInterval := r.checkInInterval
    entryProgram := r.entryProgram.val
    exitProgram := r.exitProgram.val }

/-- A field that breaks R45: its number (1 entry reader, 2 exit reader, 3 lock driver), and the place of another room that
holds its address, where it is another room's. -/
structure AddressFault where
  field : Nat
  holder : Option (RoomId × Place)
  deriving DecidableEq, Repr

/-- The place an address holds in an enabled room (03 R44). -/
def RoomSettings.placeOf (r : RoomSettings) (address : Nat) : Option Place :=
  if !r.enabled || address = 0 then none
  else if r.entryReader = address then some .entryReader
  else if r.exitReader = address then some .exitReader
  else if r.lockDriver = address then some .lockDriver
  else none

/-- The place an address holds in an enabled room other than `room` (03 R45). -/
def holderElsewhere (rooms : Vector RoomSettings 6) (room : RoomId) (address : Nat) : Option (RoomId × Place) :=
  allRooms.findSome? fun r => if r = room then none else ((look rooms r).placeOf address).map fun p => (r, p)

/-- One address of a room against R45: 0 where an address is needed, an address of another enabled room, or one this room
already uses. -/
def addressFault (rooms : Vector RoomSettings 6) (room : RoomId) (field : Nat) (needed : Bool) (address : Nat)
    (earlier : List Nat) : Option AddressFault :=
  if address = 0 then (if needed then some { field := field, holder := none } else none)
  else match holderElsewhere rooms room address with
    | some h => some { field := field, holder := some h }
    | none => if earlier.contains address then some { field := field, holder := none } else none

/-- The field of a room's record that breaks R45 against the other five rooms as they stand (03 R45, R46). Where more than one of
the addresses breaks it, the first in the order entry reader, exit reader, lock driver is named (DESIGN CHOICE, log 41). A
disabled room breaks nothing. -/
def uniquenessFault (rooms : Vector RoomSettings 6) (room : RoomId) (r : RoomSettings) : Option AddressFault :=
  if !r.enabled then none
  else match addressFault rooms room 1 true r.entryReader [] with
    | some f => some f
    | none => match addressFault rooms room 2 false r.exitReader [r.entryReader] with
      | some f => some f
      | none => addressFault rooms room 3 true r.lockDriver [r.entryReader, r.exitReader]

/-! ## Stations (08 section 8.1) -/

/-- Whether a station's codes name values (08 R143). -/
def StationFields.good (f : StationFields) : Bool := within 0 f.kind 1 && within 0 f.enabled 1

def StationFields.value (f : StationFields) : StationSettings :=
  { kind := if f.kind = 0 then .reader else .lockDriver, enabled := f.enabled = 1 }

def StationSettings.fields (t : StationSettings) : StationFields :=
  { kind := match t.kind with
      | .reader => 0
      | .lockDriver => 1
    enabled := yesNo t.enabled }

/-! ## Release programs (07 R128, 12 R185) -/

/-- The step of a code and a count. -/
def StepFields.value (f : StepFields) : Step :=
  match f.code with
  | 1 => .unlock
  | 2 => .lock
  | 3 => .sounderOn
  | 4 => .sounderOff
  | 5 => .beaconOn
  | 6 => .beaconOff
  | 7 => .shuntOn
  | 8 => .shuntOff
  | _ => .wait f.count

/-- A step as a position (12 R185). -/
def Step.fields : Step → StepFields
  | .unlock => ⟨1, 0⟩
  | .lock => ⟨2, 0⟩
  | .sounderOn => ⟨3, 0⟩
  | .sounderOff => ⟨4, 0⟩
  | .beaconOn => ⟨5, 0⟩
  | .beaconOff => ⟨6, 0⟩
  | .shuntOn => ⟨7, 0⟩
  | .shuntOff => ⟨8, 0⟩
  | .wait n => ⟨9, n⟩

/-- The positions before the first EMPTY one (07 R128). -/
def storedPositions (positions : List StepFields) : List StepFields := positions.takeWhile (fun p => p.code != 0)

/-- The number of the first bad field, two fields a position counted from `k` (07 R128, 12 R185): a code that names no
step kind in any position, or in a stored position a WAIT count outside 1 to 127 (log 16). -/
def badPosition : Nat → Bool → List StepFields → Option Nat
  | _, _, [] => none
  | k, stored, p :: rest =>
    let stored' := stored && p.code != 0
    if 9 < p.code then some k
    else if stored' && p.code == 9 && !within 1 p.count 127 then some (k + 1)
    else badPosition (k + 2) stored' rest

/-- The steps of a program from its positions (07 R128). -/
def stepsOf (positions : List StepFields) : List Step := (storedPositions positions).map StepFields.value

/-- A program as its eight positions, EMPTY after its last step. -/
def positionsOf (steps : List Step) : List StepFields :=
  steps.map Step.fields ++ List.replicate (8 - steps.length) ⟨0, 0⟩

/-- A program of an image passes the checks of SET PROGRAM, and its steps stop at its first EMPTY position (11 R180, log
17). -/
def programGood (positions : List StepFields) : Bool :=
  positions.length == 8 && (badPosition 0 true positions).isNone
    && (positions.dropWhile (fun p => p.code != 0)).all (fun p => p.code == 0)

/-! ## The image as a whole (11 section 11.3) -/

/-- The settings that an image's values name. -/
def SettingsImage.settings (i : SettingsImage) : Settings :=
  { part := i.part.value
    rooms := i.rooms.map RoomFields.value
    stations := i.stations.map StationFields.value
    programs := i.programs.map stepsOf }

/-- Every value of an image passes the checks of SET PART, SET ROOM, SET STATION and SET PROGRAM, the uniqueness of
addresses among enabled rooms included (11 R180), and the address is 1 to 250 or none: that an address outside the values of
section 11.3 makes the image not valid is the model's choice (DESIGN CHOICE, log 46). -/
def imageGood (i : SettingsImage) : Bool :=
  i.part.firstBad.isNone
    && allRooms.all (fun r => (look i.rooms r).firstBad.isNone)
    && allRooms.all (fun r =>
        (uniquenessFault (i.rooms.map RoomFields.value) r (look i.rooms r).value).isNone)
    && allStations.all (fun a => (look i.stations a).good)
    && allPrograms.all (fun p => programGood (look i.programs p))
    && (match i.address with
      | none => true
      | some a => within 1 a 250)

/-- The image of the settings in force and the trunk address, an unassigned address being written as none (09 R164, 11
R182). -/
def imageOf (settings : Settings) (address : Nat) : SettingsImage :=
  { part := settings.part.fields
    rooms := settings.rooms.map RoomSettings.fields
    stations := settings.stations.map StationSettings.fields
    programs := settings.programs.map positionsOf
    address := if address = Config.unassigned then none else some address }

end Sys2Proof.Machine
end

