-- ==== Sys2Proof/Machine/Flags.lean ====
section
/-! DEFINITION. Every byte whose bits are flags, and the code of every named value that is sent as one byte (12 R184 to
R187). -/

namespace Sys2Proof.Machine

/-- A byte from its bits, bit 0 first. -/
def byteOfBits (bits : List Bool) : Nat := bits.foldr (fun b acc => yesNo b + 2 * acc) 0

/-! ## Codes: the position, counted from 0, in the list of values of the table that specifies the state (12 R184) -/

def TimeState.code : TimeState → Nat
  | .unset => 0
  | .set => 1
  | .stale => 2

def StoreState.code : StoreState → Nat
  | .whole => 0
  | .reduced => 1
  | .half => 2
  | .failed => 3

def PermitState.code : PermitState → Nat
  | .active => 0
  | .suspended => 1
  | .revoked => 2

def EscortRule.code : EscortRule → Nat
  | .none => 0
  | .pair => 1
  | .staff => 2

def RoomMode.code : RoomMode → Nat
  | .normal => 0
  | .contractorHold => 1
  | .locked => 2

def RollState.code : RollState → Nat
  | .exact => 0
  | .uncertain => 1

def Indication.code : Indication → Nat
  | .idle => 0
  | .granted => 1
  | .denied => 2
  | .wait => 3
  | .lockedOut => 4

def LeadKind.code : LeadKind → Nat
  | .entered => 0
  | .waiting => 1

def DoorState.code : DoorState → Nat
  | .secure => 0
  | .released => 1
  | .opened => 2
  | .held => 3
  | .forced => 4
  | .fault => 5
  | .faultHold => 6

/-- The table of 07 section 7.1 lists absent, REPORTED, OFFLINE (log 21). -/
def FaultCause.code : FaultCause → Nat
  | .reported => 1
  | .offline => 2

def StationKind.code : StationKind → Nat
  | .reader => 0
  | .lockDriver => 1

def OnlineState.code : OnlineState → Nat
  | .unknown => 0
  | .online => 1
  | .offline => 2

def LinkState.code : LinkState → Nat
  | .online => 0
  | .silent => 1

def Direction.code : Direction → Nat
  | .entry => 0
  | .exit => 1

def Place.code : Place → Nat
  | .entryReader => 0
  | .exitReader => 1
  | .lockDriver => 2

def Intent.code : Intent → Nat
  | .pass => 0
  | .checkIn => 1

def CarryCause.code : CarryCause → Nat
  | .noReply => 0
  | .badReply => 1
  | .stationDisabled => 2

def DepartureCause.code : DepartureCause → Nat
  | .exit => 0
  | .exitOther => 1
  | .passback => 2
  | .reconcile => 3

def SaveStage.code : SaveStage → Nat
  | .probe => 0
  | .clear => 1
  | .image => 2
  | .signature => 3
  | .verify => 4

def LoadKind.code : LoadKind → Nat
  | .inserted => 0
  | .replaced => 1

def ReleaseResult.code : ReleaseResult → Nat
  | .started => 0
  | .restarted => 1
  | .empty => 2

/-- The outcome codes of 12 R186. -/
def VerdictOutcome.code : VerdictOutcome → Nat
  | .grant => 0
  | .deny => 1
  | .pending => 2
  | .pendingLead => 3
  | .leadTimeout => 4
  | .exit => 5
  | .exitOther => 6
  | .exitUnmatched => 7
  | .checkInOk => 8
  | .checkInUnmatched => 9

/-- The reason codes of 12 R186. -/
def Reason.code : Reason → Nat
  | .none => 0
  | .badCredential => 1
  | .roomLocked => 2
  | .doorFault => 3
  | .noPermit => 4
  | .escortInactive => 5
  | .wrongZone => 6
  | .alreadyInside => 7
  | .roomHold => 8
  | .timeUnknown => 9
  | .suspended => 10
  | .revoked => 11
  | .issueMismatch => 12
  | .notYetValid => 13
  | .expired => 14
  | .outsideHours => 15
  | .roomFull => 16
  | .rollFull => 17
  | .partyBusy => 18
  | .partyFull => 19
  | .escortRatio => 20
  | .escortTimeout => 21

/-- The alarm codes of 12 section 12.3: DOOR_FORCED 1 to STARTUP 15. -/
def AlarmKind.code : AlarmKind → Nat
  | .doorForced => 1
  | .doorHeld => 2
  | .doorFault => 3
  | .overstay => 4
  | .loneWorkerOverdue => 5
  | .escortLeft => 6
  | .partnerLeft => 7
  | .permitWithdrawnInside => 8
  | .issueConflict => 9
  | .passback => 10
  | .stationOffline => 11
  | .stationOnline => 12
  | .linkRestored => 13
  | .timeStale => 14
  | .startUp => 15

def Status.code : Status → Nat
  | .done => 0
  | .notFound => 1
  | .noRoom => 2
  | .badValue => 3
  | .conflict => 4
  | .inUse => 5
  | .notAllowed => 6
  | .noStore => 7

/-! ## Bytes of flags -/

/-- Byte 2 of the reply header: the link flag and the alarm-overflow flag (12 section 12.2). -/
def headerFlags (silent overflow : Bool) : Nat := byteOfBits [silent, overflow]

/-- Byte 5 of a VERDICT: the stale mark and which fields hold a value (12 section 12.3). -/
def verdictFlags (v : Verdict) : Nat :=
  byteOfBits [v.stale, v.place.isSome, v.permitNumber.isSome, v.grantIndex.isSome, v.escort.isSome, v.allowance.isSome,
    v.partySize.isSome, v.removed.isSome]

/-- Byte 6 of an alarm: which of room, credential and station are present (12 section 12.3). -/
def alarmFlags (a : Alarm) : Nat := byteOfBits [a.room.isSome, a.credential.isSome, a.station.isSome]

/-- The flags byte of a presence record: bit 0 OVERSTAY_RAISED, bits 1 and 2 the CHECKIN_OVERDUE count, bit 3 UNESCORTED,
bit 4 WITHDRAWN (12 R186). -/
def presenceFlags (c : ContractorPart) : Nat :=
  yesNo c.overstayRaised + 2 * (c.checkInOverdue % 4) + 8 * yesNo c.unescorted + 16 * yesNo c.withdrawn

/-- The image byte of a visit to a lock driver (12 R187). -/
def outputByte (image : OutputImage) : Nat :=
  byteOfBits [image.unlocked, image.sounder, image.beacon, image.shunt]

/-- The hold flag of a POLL: bit 0 of its first payload byte, clear where the payload is empty (12 R185). -/
def holdFlag (payload : List Byte) : Bool :=
  match payload with
  | [] => false
  | flags :: _ => flags.getLsbD 0

end Sys2Proof.Machine
end

