-- ==== Sys2Proof/Machine/Encode.lean ====
section
/-! DEFINITION. The byte layouts of report items and of answer data (12 section 12.3, R186). Where the spec gives a value no
code or size, the choice stands in log 18 to 20. -/

namespace Sys2Proof.Machine

/-- One byte of a number. -/
def byte1 (n : Nat) : List Byte := bytesOf 1 n

/-- A count of records removed as one byte, the free value of `Config.countPastByte` where no byte holds it (12 R184, log 20). -/
def byteRemoved (n : Nat) : List Byte := if n ≤ 255 then byte1 n else [Config.countPastByte n]

/-- A yes or no as one byte. -/
def byteB (b : Bool) : List Byte := byte1 (yesNo b)

/-- A value that may be absent, sent as 0 where it is (12 R186). -/
def orZero (n : Option Nat) : Nat := n.getD 0

/-- The number of an optional room, 0 where absent. -/
def roomByte (r : Option RoomId) : List Byte := byte1 (orZero (r.map roomNumber))

/-! ## Routine items and alarms -/

/-- The 32 bytes of a VERDICT body. -/
def encodeVerdict (v : Verdict) : List Byte :=
  bytesOf 4 v.minute ++ byte1 v.second ++ byte1 (verdictFlags v)
    ++ roomByte (v.place.map Prod.fst) ++ byte1 (orZero (v.place.map fun p => p.2.code))
    ++ byte1 v.reader ++ bytesOf 4 v.credential ++ byte1 v.issueLevel ++ byte1 v.outcome.code ++ byte1 v.reason.code
    ++ bytesOf 3 (orZero v.permitNumber) ++ byte1 (orZero v.grantIndex) ++ bytesOf 4 (orZero v.escort)
    ++ bytesOf 2 (orZero v.allowance) ++ byte1 (orZero v.partySize)
    ++ roomByte (v.removed.map Prod.fst) ++ bytesOf 4 (orZero (v.removed.map Prod.snd))

/-- The item type and the body of a routine item (12 section 12.2, R186). -/
def encodeRoutine : RoutineItem → Nat × List Byte
  | .verdict v => (3, encodeVerdict v)
  | .carryUpPayload minute second station payload =>
    (4, byte1 0 ++ bytesOf 4 minute ++ byte1 second ++ byte1 station ++ byte1 payload.length ++ payload)
  | .carryUpPresentation minute second station credential level intent =>
    (4, byte1 1 ++ bytesOf 4 minute ++ byte1 second ++ byte1 station ++ bytesOf 4 credential ++ byte1 level
      ++ byte1 intent.code)
  | .carryFailed minute second station tag length cause =>
    (5, bytesOf 4 minute ++ byte1 second ++ byte1 station ++ byte1 tag ++ byte1 length ++ byte1 cause.code)

/-- The kind of an alarm, which its detail fixes. -/
def AlarmDetail.kind : AlarmDetail → AlarmKind
  | .doorForced _ _ => .doorForced
  | .doorHeld _ _ => .doorHeld
  | .doorFault _ _ => .doorFault
  | .overstay _ _ _ _ _ => .overstay
  | .loneWorkerOverdue _ _ _ => .loneWorkerOverdue
  | .escortLeft _ _ => .escortLeft
  | .partnerLeft _ _ => .partnerLeft
  | .permitWithdrawnInside _ _ _ => .permitWithdrawnInside
  | .issueConflict _ _ _ => .issueConflict
  | .passback _ _ => .passback
  | .stationOffline _ _ _ => .stationOffline
  | .stationOnline _ _ => .stationOnline
  | .linkRestored _ => .linkRestored
  | .timeStale _ _ => .timeStale
  | .startUp _ _ => .startUp

/-- The detail values in the order of 10 R176. -/
def encodeDetail : AlarmDetail → List Byte
  | .doorForced records running => byte1 records ++ byteB running
  | .doorHeld limit running => bytesOf 2 limit ++ byteB running
  | .doorFault cause before => byte1 cause.code ++ byte1 before.code
  | .overstay number entry deadline unescorted withdrawn =>
    bytesOf 3 number ++ bytesOf 4 entry ++ bytesOf 4 deadline ++ byteB unescorted ++ byteB withdrawn
  | .loneWorkerOverdue which deadline interval => byte1 which ++ bytesOf 4 deadline ++ byte1 interval
  | .escortLeft staff cause => bytesOf 4 staff ++ byte1 cause.code
  | .partnerLeft partner cause => bytesOf 4 partner ++ byte1 cause.code
  | .permitWithdrawnInside state number deadline => byte1 state.code ++ bytesOf 3 number ++ bytesOf 4 deadline
  | .issueConflict presented fixed number => byte1 presented ++ byte1 fixed ++ bytesOf 3 number
  | .passback room entry => byte1 (roomNumber room) ++ bytesOf 4 entry
  | .stationOffline kind before cause => byte1 kind.code ++ byte1 before.code ++ byte1 cause.code
  | .stationOnline kind misses => byte1 kind.code ++ byte1 misses
  | .linkRestored seconds => bytesOf 2 seconds
  | .timeStale minute last => bytesOf 4 minute ++ bytesOf 4 (orZero last)
  | .startUp store retired => byte1 store.code ++ bytesOf 2 retired

/-- The body of an alarm item. -/
def encodeAlarm (a : Alarm) : List Byte :=
  byte1 a.detail.kind.code ++ bytesOf 4 a.minute ++ byte1 a.second ++ byte1 (alarmFlags a) ++ roomByte a.room
    ++ bytesOf 4 (orZero a.credential) ++ byte1 (orZero a.station) ++ byte1 a.repeats
    ++ byte1 (encodeDetail a.detail).length ++ encodeDetail a.detail

/-! ## Answer data -/

/-- A grant entry's 20 bytes (12 R185). -/
def encodeGrant (g : Grant) : List Byte :=
  bytesOf 4 g.zoneMask.toNat ++ bytesOf 4 g.validFrom ++ bytesOf 4 g.validUntil ++ bytesOf 2 g.opens ++ bytesOf 2 g.closes
    ++ byte1 g.weekdays.toNat ++ byte1 g.rule.code ++ bytesOf 2 g.maxStay

/-- The issue lock as its code and its learned level (12 R185). -/
def encodeLock : IssueLock → List Byte
  | .off => byte1 0 ++ byte1 0
  | .learn => byte1 1 ++ byte1 0
  | .fixed level => byte1 2 ++ byte1 level

/-- A position's code in the list of its rule: OUTSIDE, INSIDE, and IN_PARTY (01 R17) or LEADING (01 R21). -/
def Position.code : Position → Nat
  | .outside => 0
  | .inside _ => 1
  | .inParty _ => 2
  | .leading _ _ => 2

/-- The room that a position names. -/
def Position.room : Position → Option RoomId
  | .outside => none
  | .inside room => some room
  | .inParty room => some room
  | .leading room _ => some room

/-- A contractor's position: its code and its room (01 R17, log 18). -/
def encodePosition (p : Position) : List Byte := byte1 p.code ++ roomByte p.room

/-- A staff member's position: its code, its room and the lead kind, 0 where it is not LEADING (01 R21, log 18). -/
def encodeStaffPosition (p : Position) : List Byte :=
  encodePosition p ++ byte1 (match p with
    | .leading _ kind => kind.code
    | _ => 0)

/-- Where a holder is, in a refusal of a DROP: the room, and whether inside, in a party or leading (01 R10, R20, log 18). -/
def encodeHolder (p : Position) : List Byte := roomByte p.room ++ byte1 p.code

/-- What a slot holds: neither 0, a party 1 with its members, a lead 2 with its kind (log 18). -/
def encodeSlot : SlotPicture → List Byte
  | .neither => byte1 0 ++ byte1 0
  | .party members => byte1 1 ++ byte1 members
  | .lead kind => byte1 2 ++ byte1 kind.code

/-- The check-in state and deadline of a presence record (12 R186). -/
def encodeCheckIn : CheckIn → List Byte
  | .absent => byte1 0 ++ bytesOf 4 0
  | .armed deadline => byte1 1 ++ bytesOf 4 deadline
  | .spent deadline => byte1 2 ++ bytesOf 4 deadline

/-- The 36 bytes of a presence record (12 R186). -/
def encodePresence (p : Presence) : List Byte :=
  match p.contractor with
  | some c =>
    byte1 (roomNumber p.room) ++ bytesOf 4 p.credential ++ byte1 0 ++ bytesOf 3 c.permitNumber ++ byte1 c.grantIndex
      ++ byte1 c.rule.code ++ bytesOf 2 c.company ++ bytesOf 4 p.entryMinute ++ byte1 p.entrySecond
      ++ bytesOf 4 c.stayDeadline ++ encodeCheckIn c.checkIn ++ bytesOf 4 (orZero c.escort) ++ bytesOf 4 (orZero c.partner)
      ++ byte1 (presenceFlags c)
  | none =>
    byte1 (roomNumber p.room) ++ bytesOf 4 p.credential ++ byte1 1 ++ bytesOf 3 0 ++ byte1 0 ++ byte1 0 ++ bytesOf 2 0
      ++ bytesOf 4 p.entryMinute ++ byte1 p.entrySecond ++ bytesOf 4 0 ++ encodeCheckIn .absent ++ bytesOf 4 0
      ++ bytesOf 4 0 ++ byte1 0

/-- The twelve settings of a room in the sizes SET ROOM sends them (12 R184). -/
def encodeRoomSettings (r : RoomSettings) : List Byte :=
  let f := r.fields
  byte1 f.enabled ++ bytesOf 2 f.roomCode ++ byte1 f.entryReader ++ byte1 f.exitReader ++ byte1 f.lockDriver
    ++ byte1 f.occupancyLimit ++ byte1 f.passback ++ bytesOf 2 f.heldLimit ++ byte1 f.dwellOffset
    ++ byte1 f.checkInInterval ++ byte1 f.entryProgram ++ byte1 f.exitProgram

/-- The nine part settings in the sizes SET PART sends them (12 R184). -/
def encodePart (p : PartSettings) : List Byte :=
  let f := p.fields
  byte1 f.epochWeekday ++ byte1 f.groupMode ++ byte1 f.shift ++ byte1 f.repeatSuppression ++ byte1 f.readerPolicy
    ++ byte1 f.escortWindow ++ byte1 f.lineSpeed ++ byte1 f.replyTimeout ++ byte1 f.trunkSilence

/-- The data of READ ROOM (03 R57). -/
def encodeRoomPicture (r : RoomPicture) : List Byte :=
  encodeRoomSettings r.settings ++ byte1 r.zoneIndex ++ byte1 r.mode.code ++ byte1 r.rollState.code ++ byte1 r.door.code
    ++ byteB r.running ++ byte1 r.entryImage.code ++ byte1 r.exitImage.code ++ encodeSlot r.slot ++ byte1 r.total
    ++ byte1 r.records.length ++ (r.records.map encodePresence).flatten

def encodeRoomStatus (r : RoomStatus) : List Byte :=
  byteB r.enabled ++ byte1 r.mode.code ++ byte1 r.rollState.code ++ byte1 r.records ++ byte1 r.door.code ++ encodeSlot r.slot

def encodeStationStatus (t : StationStatus) : List Byte :=
  byte1 t.kind.code ++ byteB t.enabled ++ byte1 t.online.code ++ byte1 t.missed

/-- The data of READ STATUS, group by group (09 R167). -/
def encodeStatus (p : StatusPicture) : List Byte :=
  bytesOf 4 p.serial ++ byte1 p.address ++ byteB p.memoryPresent ++ byteB p.imageValid
    ++ byte1 p.store.code ++ bytesOf 2 p.cellsUsed ++ bytesOf 2 p.cellsFree ++ bytesOf 2 p.cellsRetired
    ++ bytesOf 2 p.permits ++ bytesOf 2 Config.permitCells ++ bytesOf 2 p.staff ++ bytesOf 2 Config.rosterPlaces
    ++ byte1 p.presences ++ bytesOf 2 Config.rollPlaces
    ++ (p.rooms.map encodeRoomStatus).flatten ++ (p.stations.map encodeStationStatus).flatten
    ++ byte1 p.commandItems ++ byte1 p.answerItems ++ byte1 p.alarmItems ++ byte1 p.routineItems ++ byte1 p.carryItems
    ++ byteB p.overflow ++ byte1 p.discards ++ byte1 p.refusals ++ byte1 p.link.code
    ++ bytesOf 4 p.minute ++ byte1 p.second ++ byte1 p.timeState.code ++ bytesOf 2 p.sinceTime ++ encodePart p.part

/-- The positions, counted from 1, of the values that are `true`. -/
def positionsTrue : Nat → List Bool → List Nat
  | _, [] => []
  | k, b :: rest => if b then k :: positionsTrue (k + 1) rest else positionsTrue (k + 1) rest

/-- The data bytes of an answer, in the order the request's rule lists its values (12 R186; log 18 to 20). A LOAD ESCORT answered
REPLACED sends its kind alone, since 01 R19 gives no number of records held there (DESIGN CHOICE, log 47). A SET ROOM answered IN_USE
sends whether a party is open and whether a lead is as two bytes after the count (03 R46; DESIGN CHOICE, log 18).
An unknown request name sends the name as received after position 0 (09 R162; DESIGN CHOICE, log 51). -/
def encodeData : AnswerData → List Byte
  | .nothing => []
  | .badField position => byte1 position
  | .unknownName name => byte1 0 ++ byte1 name
  | .addressTaken position room place => byte1 position ++ byte1 (roomNumber room) ++ byte1 place.code
  | .addressRefused position => byte1 position ++ byte1 0 ++ byte1 0
  | .heldByPermits => byte1 0
  | .heldByRoster => byte1 1
  | .permitLoaded kind cells free => byte1 kind.code ++ bytesOf 2 cells ++ bytesOf 2 free
  | .cellsShort needed available => bytesOf 2 needed ++ bytesOf 2 available
  | .cellsFreed cells => bytesOf 2 cells
  | .holderAt position => encodeHolder position
  | .previousPermitState state => byte1 state.code
  | .permitPicture p cells position =>
    bytesOf 3 p.permitNumber ++ bytesOf 4 p.credential ++ bytesOf 2 p.company ++ byte1 p.state.code ++ encodeLock p.lock
      ++ byteB p.lastEntry.isSome ++ bytesOf 4 (orZero p.lastEntry) ++ bytesOf 2 p.headerCell ++ bytesOf 2 cells
      ++ byte1 p.grants.length ++ (p.grants.map encodeGrant).flatten ++ encodePosition position
  | .purged records cells => byteRemoved records ++ bytesOf 2 cells
  | .staffInserted held => byte1 LoadKind.inserted.code ++ bytesOf 2 held
  | .staffReplaced => byte1 LoadKind.replaced.code
  | .staffHeld held => bytesOf 2 held
  | .staffPicture st position linked =>
    bytesOf 4 st.credential ++ bytesOf 3 st.staffNumber ++ bytesOf 4 st.zoneMask.toNat ++ byte1 st.ratio
      ++ byteB st.mayEnterAlone ++ byteB st.active ++ encodeStaffPosition position ++ byte1 linked
  | .tablesInUse presences parties leads => byte1 presences ++ byte1 parties ++ byte1 leads
  | .tablesCleared permits staff free => byteRemoved permits ++ byteRemoved staff ++ bytesOf 2 free
  | .roomInUse records party lead => byte1 records ++ byteB party ++ byteB lead
  | .roomSet zone enabled => byte1 zone ++ byteB enabled
  | .previousMode mode => byte1 mode.code
  | .room picture => encodeRoomPicture picture
  | .reconciled removed kept ignored => byte1 removed ++ byte1 kept ++ byte1 ignored
  | .programSet steps rooms => byte1 steps ++ byte1 rooms
  | .cancelled none => byte1 0 ++ byte1 0 ++ byte1 0
  | .cancelled (some (kind, number)) => byte1 1 ++ byte1 kind.code ++ byte1 number.val
  | .doorIs state => byte1 state.code
  | .releaseRefused mode state => byte1 mode.code ++ byte1 state.code
  | .release program result => byte1 program.val ++ byte1 result.code
  | .stationSet state missed => byte1 state.code ++ byte1 missed
  | .partiesPending parties => byte1 parties
  | .partSet changed zones =>
    byte1 (positionsTrue 1 changed).length ++ ((positionsTrue 1 changed).map byte1).flatten
      ++ (match zones with
        | none => byte1 0 ++ bytesOf 6 0
        | some zs => byte1 1 ++ (zs.map byte1).flatten)
  | .carryFull items => byte1 items
  | .carryQueued items forStation => byte1 items ++ byte1 forStation
  | .status picture => encodeStatus picture
  | .saveFailed stage => byte1 stage.code
  | .saved bytes => bytesOf 2 bytes
  | .addressHeld address => byte1 address
  | .addressSet address serial => byte1 address ++ bytesOf 4 serial

/-- The body of an answer item: tag, request name, status, data length and data (12 R186). -/
def encodeAnswer (a : Answer) : List Byte :=
  byte1 a.tag ++ byte1 a.name ++ byte1 a.status.code ++ byte1 (encodeData a.data).length ++ encodeData a.data

/-! ## The reply to a POLL (12 section 12.2) -/

/-- The one item a reply carries (10 R169). -/
inductive ReplyItem where
  | empty
  | alarm (a : Alarm)
  | answer (a : Answer)
  | routine (i : RoutineItem)
  deriving DecidableEq, Repr

/-- The item type and body (12 R185, R186). -/
def encodeItem : ReplyItem → List Byte
  | .empty => byte1 0
  | .alarm a => byte1 1 ++ encodeAlarm a
  | .answer a => byte1 2 ++ encodeAnswer a
  | .routine i => byte1 (encodeRoutine i).1 ++ (encodeRoutine i).2

/-- The seven values of the reply header (10 R170). -/
structure ReplyHeader where
  timeState : TimeState
  store : StoreState
  silent : Bool
  overflow : Bool
  discards : Nat
  refusals : Nat
  alarms : Nat
  routine : Nat
  deriving DecidableEq, Repr

/-- The header's seven bytes (12 section 12.2). -/
def encodeHeader (h : ReplyHeader) : List Byte :=
  byte1 h.timeState.code ++ byte1 h.store.code ++ byte1 (headerFlags h.silent h.overflow) ++ byte1 h.discards
    ++ byte1 h.refusals ++ byte1 h.alarms ++ byte1 h.routine

/-- The reply frame from the part's address to the head-end (09 R158). -/
def replyFrame (address : Nat) (header : ReplyHeader) (item : ReplyItem) : Frame :=
  { destination := Config.headEnd, source := address, kind := kindReply,
    payload := encodeHeader header ++ encodeItem item }

/-- A visit frame from field address 0: the image, the carry length and the payload (12 R187, 08 R146). -/
def visitFrame (station : Nat) (image : Nat) (carry : List Byte) : Frame :=
  { destination := station, source := 0, kind := kindVisit,
    payload := byte1 image ++ byte1 carry.length ++ carry }

end Sys2Proof.Machine
end

