-- ==== Sys2Proof/Machine/Operands.lean ====
section
/-! DEFINITION. The operands of the requests and of the field replies: reading the fields of a request from its bytes (12
R185, 09 R162), the field ranges each rule gives, and the payload of a station's reply (12 R187). -/

namespace Sys2Proof.Machine

/-! ## Reading fields -/

/-- Reading fields of the given sizes in order, high byte first; fails with the position of the first field that cannot be
read. Answers the values and the bytes left. -/
def readFields : Nat → List Nat → List Byte → Except Nat (List Nat × List Byte)
  | _, [], bytes => .ok ([], bytes)
  | position, size :: sizes, bytes =>
    if bytes.length < size then .error position
    else match readFields (position + 1) sizes (bytes.drop size) with
      | .error p => .error p
      | .ok (values, rest) => .ok (numberOf (bytes.take size) :: values, rest)

/-- Reading `n` entries of one shape. -/
def readEntries : Nat → Nat → List Nat → List Byte → Except Nat (List (List Nat) × List Byte)
  | 0, _, _, bytes => .ok ([], bytes)
  | n + 1, position, sizes, bytes =>
    match readFields position sizes bytes with
    | .error p => .error p
    | .ok (entry, rest) =>
      match readEntries n (position + sizes.length) sizes rest with
      | .error p => .error p
      | .ok (entries, rest') => .ok (entry :: entries, rest')

/-- All the fields of a request without a list; bytes beyond the last field make it too long, which names the position after
the last (09 R162, log 15). -/
def readAll (sizes : List Nat) (body : List Byte) : Except Nat (List Nat) :=
  match readFields 1 sizes body with
  | .error p => .error p
  | .ok (values, []) => .ok values
  | .ok (_, _ :: _) => .error (sizes.length + 1)

/-- The fields of a request whose last head field counts the entries of a list that follows (12 R185). -/
def readCounted (head entry : List Nat) (body : List Byte) : Except Nat (List Nat × List (List Nat)) :=
  match readFields 1 head body with
  | .error p => .error p
  | .ok (values, rest) =>
    let count := values.getLastD 0
    match readEntries count (head.length + 1) entry rest with
    | .error p => .error p
    | .ok (entries, []) => .ok (values, entries)
    | .ok (_, _ :: _) => .error (head.length + count * entry.length + 1)

/-! ## LOAD PERMIT (01 R7) -/

/-- The issue-lock setting of a request (01 R7). -/
inductive LockSetting where
  | off
  | learn
  | fixed (level : Nat)
  | keep
  deriving DecidableEq, Repr

/-- A LOAD PERMIT's fields. -/
structure PermitTerms where
  credential : Nat
  permitNumber : Nat
  company : Nat
  lock : LockSetting
  grants : List Grant
  deriving DecidableEq, Repr

/-- The escort rule of a code (12 R185). -/
def escortRuleOfCode : Nat → EscortRule
  | 0 => .none
  | 1 => .pair
  | _ => .staff

/-- A valid credential (00 section 0.5). -/
def validCredential (c : Nat) : Bool := within 1 c Config.lastCredential

/-- The checks of one grant entry in field order (01 R2, R7). -/
def grantChecks : List Nat → List Bool
  | [_, validFrom, validUntil, opens, closes, weekdays, rule, maxStay] =>
    [true, validFrom ≤ 4294967294, validFrom < validUntil && validUntil ≤ 4294967295, opens ≤ 1439, within 1 closes 1440,
     within 1 weekdays 127, rule ≤ 2, within 1 maxStay 720]
  | _ => []

/-- The grant of an entry's fields. -/
def grantOf : List Nat → Option Grant
  | [mask, validFrom, validUntil, opens, closes, weekdays, rule, maxStay] =>
    some { zoneMask := BitVec.ofNat 32 mask, validFrom := validFrom, validUntil := validUntil, opens := opens, closes := closes,
           weekdays := BitVec.ofNat 8 weekdays, rule := escortRuleOfCode rule, maxStay := maxStay }
  | _ => none

/-- The lock setting of its two bytes (12 R185). -/
def lockSettingOf (code level : Nat) : LockSetting :=
  match code with
  | 0 => .off
  | 1 => .learn
  | 2 => .fixed level
  | _ => .keep

/-- Stage 1 of LOAD PERMIT over its bytes; `known` says whether a credential already has a permit record. Fails with the
position of the first field that cannot be read or, all being read, that is out of range (01 R7, 09 R162, log 14). -/
def permitTerms (known : Nat → Bool) (body : List Byte) : Except Nat PermitTerms :=
  match readCounted [4, 3, 2, 1, 1, 1] [4, 4, 4, 2, 2, 1, 1, 2] body with
  | .error p => .error p
  | .ok ([credential, permitNumber, company, code, level, count], entries) =>
    let checks :=
      [validCredential credential, within 1 permitNumber 999999, within 1 company 65535,
       code ≤ 3 && (code != 3 || known credential), code != 2 || level ≤ 15, within 1 count 4]
        ++ (entries.map grantChecks).flatten
    match firstBad 1 checks with
    | some p => .error p
    | none => .ok { credential := credential, permitNumber := permitNumber, company := company,
                    lock := lockSettingOf code level, grants := entries.filterMap grantOf }
  | .ok _ => .error 0

/-! ## The other requests -/

/-- A request that names one credential (01 R10 to R13, R17, R20, R21). -/
def credentialField (body : List Byte) : Except Nat Nat :=
  match readAll [4] body with
  | .error p => .error p
  | .ok [c] => if validCredential c then .ok c else .error 1
  | .ok _ => .error 0

/-- A request without fields (09 R162). -/
def noFields (body : List Byte) : Except Nat Unit :=
  match readAll [] body with
  | .error p => .error p
  | .ok _ => .ok ()

/-- LOAD ESCORT (01 R19). -/
def staffFields (body : List Byte) : Except Nat Staff :=
  match readAll [4, 3, 4, 1, 1, 1] body with
  | .error p => .error p
  | .ok [credential, number, mask, ratio, alone, active] =>
    match firstBad 1 [validCredential credential, within 1 number 999999, true, within 1 ratio 4, alone ≤ 1, active ≤ 1] with
    | some p => .error p
    | none => .ok { credential := credential, staffNumber := number, zoneMask := BitVec.ofNat 32 mask, ratio := ratio,
                    mayEnterAlone := alone = 1, active := active = 1 }
  | .ok _ => .error 0

/-- SET ROOM: the room and the checked settings; the settings count from position 2 (03 R46). -/
def setRoomFields (body : List Byte) : Except Nat (RoomId × RoomSettings) :=
  match readAll [1, 1, 2, 1, 1, 1, 1, 1, 2, 1, 1, 1, 1] body with
  | .error p => .error p
  | .ok [room, f1, f2, f3, f4, f5, f6, f7, f8, f9, f10, f11, f12] =>
    let f : RoomFields := ⟨f1, f2, f3, f4, f5, f6, f7, f8, f9, f10, f11, f12⟩
    match roomOfNumber room with
    | none => .error 1
    | some r => match f.firstBad with
      | some p => .error (p + 1)
      | none => .ok (r, f.value)
  | .ok _ => .error 0

/-- The mode of a code (03 section 3.1, 12 R184). -/
def modeOfCode : Nat → RoomMode
  | 0 => .normal
  | 1 => .contractorHold
  | _ => .locked

/-- SET ROOM MODE (03 R49). -/
def roomModeFields (body : List Byte) : Except Nat (RoomId × RoomMode) :=
  match readAll [1, 1] body with
  | .error p => .error p
  | .ok [room, mode] =>
    match roomOfNumber room with
    | none => .error 1
    | some r => if mode ≤ 2 then .ok (r, modeOfCode mode) else .error 2
  | .ok _ => .error 0

/-- READ ROOM (03 R57). -/
def readRoomFields (body : List Byte) : Except Nat (RoomId × Nat) :=
  match readAll [1, 1] body with
  | .error p => .error p
  | .ok [room, first] =>
    match roomOfNumber room with
    | none => .error 1
    | some r => if first ≤ 23 then .ok (r, first) else .error 2
  | .ok _ => .error 0

/-- RECONCILE ROOM (06 R117). -/
def reconcileFields (body : List Byte) : Except Nat (RoomId × List Nat) :=
  match readCounted [1, 1] [4] body with
  | .error p => .error p
  | .ok ([room, count], entries) =>
    match roomOfNumber room with
    | none => .error 1
    | some r =>
      match firstBad 2 ((count ≤ 24 : Bool) :: entries.flatten.map validCredential) with
      | some p => .error p
      | none => .ok (r, entries.flatten)
  | .ok _ => .error 0

/-- SET PROGRAM (07 R128): the program and its steps. -/
def programFields (body : List Byte) : Except Nat (ProgramId × List Step) :=
  match readFields 1 [1] body with
  | .error p => .error p
  | .ok (head, rest) =>
    match readEntries 8 2 [1, 1] rest with
    | .error p => .error p
    | .ok (_, _ :: _) => .error 18
    | .ok (entries, []) =>
      let positions := entries.map fun e => (⟨e.getD 0 0, e.getD 1 0⟩ : StepFields)
      match programOfNumber (head.getD 0 0) with
      | none => .error 1
      | some n => match badPosition 2 true positions with
        | some p => .error p
        | none => .ok (n, stepsOf positions)

/-- A request that names one room (07 R133, R137). -/
def roomField (body : List Byte) : Except Nat RoomId :=
  match readAll [1] body with
  | .error p => .error p
  | .ok [room] => match roomOfNumber room with
    | none => .error 1
    | some r => .ok r
  | .ok _ => .error 0

/-- REMOTE RELEASE (07 R140). -/
def releaseFields (body : List Byte) : Except Nat (RoomId × Direction) :=
  match readAll [1, 1] body with
  | .error p => .error p
  | .ok [room, kind] =>
    match roomOfNumber room with
    | none => .error 1
    | some r => if kind ≤ 1 then .ok (r, if kind = 0 then .entry else .exit) else .error 2
  | .ok _ => .error 0

/-- SET STATION (08 R143): the station, its settings, and the speed or KEEP. -/
def stationFields (body : List Byte) : Except Nat (StationId × StationSettings × Option LineSpeed) :=
  match readAll [1, 1, 1, 1] body with
  | .error p => .error p
  | .ok [address, kind, enabled, speed] =>
    match stationOfAddress address with
    | none => .error 1
    | some a =>
      match firstBad 2 [kind ≤ 1, enabled ≤ 1, speed ≤ 3] with
      | some p => .error p
      | none => .ok (a, (⟨kind, enabled⟩ : StationFields).value, if speed = 3 then none else some (speedOfCode speed))
  | .ok _ => .error 0

/-- SET PART (09 R165). -/
def partFields (body : List Byte) : Except Nat PartSettings :=
  match readAll [1, 1, 1, 1, 1, 1, 1, 1, 1] body with
  | .error p => .error p
  | .ok [f1, f2, f3, f4, f5, f6, f7, f8, f9] =>
    let f : PartFields := ⟨f1, f2, f3, f4, f5, f6, f7, f8, f9⟩
    match f.firstBad with
    | some p => .error p
    | none => .ok f.value
  | .ok _ => .error 0

/-- CARRY (09 R166): the station and the payload. Each byte of the payload is read as a field of its own from position 3 on, so a
payload that ends early names the first byte that is missing (DESIGN CHOICE, log 45). -/
def carryFields (body : List Byte) : Except Nat (StationId × List Byte) :=
  match readCounted [1, 1] [1] body with
  | .error p => .error p
  | .ok ([address, count], entries) =>
    match stationOfAddress address with
    | none => .error 1
    | some a => if within 1 count Config.carryMax then .ok (a, entries.flatten.map (BitVec.ofNat 8)) else .error 2
  | .ok _ => .error 0

/-- ASSIGN ADDRESS (09 R155): the serial number and the new address. -/
def assignFields (body : List Byte) : Except Nat (Nat × Nat) :=
  match readAll [4, 1] body with
  | .error p => .error p
  | .ok [serial, address] => if within 1 address 250 then .ok (serial, address) else .error 2
  | .ok _ => .error 0

/-! ## Field replies (12 R187, 08 R149) -/

/-- A lock driver's events (07 section 7.2). -/
inductive DriverEvent where
  | opened
  | closed
  | button
  | fault
  | faultCleared
  deriving DecidableEq, Repr

/-- The event of a code (12 R187). -/
def driverEventOfCode : Nat → Option DriverEvent
  | 0 => some .opened
  | 1 => some .closed
  | 2 => some .button
  | 3 => some .fault
  | 4 => some .faultCleared
  | _ => none

/-- The body of a reply (08 R149). -/
inductive ReplyBody where
  | nothing
  | presentation (credential : Nat) (issueLevel : Nat) (intent : Intent)
  | events (list : List DriverEvent)
  deriving DecidableEq, Repr

/-- A well-formed reply (12 R187). -/
structure FieldReply where
  body : ReplyBody
  carryUp : Option (List Byte)
  deriving DecidableEq, Repr

/-- The carry-up part of a reply, which must fill the payload exactly (12 R187). -/
def readCarryUp : List Byte → Option (Option (List Byte))
  | [flag] => if flag.toNat = 0 then some none else none
  | flag :: length :: payload =>
    if flag.toNat = 1 && within 1 length.toNat Config.carryMax && payload.length == length.toNat then some (some payload)
    else none
  | [] => none

/-- The payload of a reply read in field order; `none` where it is malformed by R187. -/
def readReply (payload : List Byte) : Option FieldReply :=
  match payload with
  | [] => none
  | kind :: rest =>
    match kind.toNat with
    | 0 => (readCarryUp rest).map fun up => { body := .nothing, carryUp := up }
    | 1 =>
      match readFields 1 [4, 1, 1] rest with
      | .ok ([credential, level, intent], rest') =>
        if level ≤ 15 && intent ≤ 1 then
          (readCarryUp rest').map fun up =>
            { body := .presentation credential level (if intent = 0 then .pass else .checkIn), carryUp := up }
        else none
      | _ => none
    | 2 =>
      match rest with
      | [] => none
      | count :: rest' =>
        if 4 < count.toNat || rest'.length < count.toNat then none
        else
          let codes := (rest'.take count.toNat).map (fun b => driverEventOfCode b.toNat)
          if codes.any Option.isNone then none
          else (readCarryUp (rest'.drop count.toNat)).map fun up =>
            { body := .events (codes.filterMap id), carryUp := up }
    | _ => none

/-- Whether a station of a kind may send a body (08 R149). -/
def bodyFits : StationKind → ReplyBody → Bool
  | .reader, .events _ => false
  | .lockDriver, .presentation _ _ _ => false
  | _, _ => true

end Sys2Proof.Machine
end

