-- ==== Sys2Proof/Machine/Ops.lean ====
section
/-! DEFINITION. The shared operations over the state: the timebase and its timers, the report queues, the Room Table's
answers, lookups, and the Party Unit's slots. Each is a function of the state that the meanings compose. -/

namespace Sys2Proof.Machine

/-! ## One setter for each field that the meanings write -/

def State.withPhase (s : State) (x : Phase) : State := { s with phase := x }
def State.withNow (s : State) (x : Nat) : State := { s with now := x }
def State.withMemory (s : State) (x : ConfigMemory) : State := { s with memory := x }
def State.withLoadResult (s : State) (x : LoadResult) : State := { s with loadResult := x }
def State.withSettings (s : State) (x : Settings) : State := { s with settings := x }
def State.withRetired (s : State) (x : RetiredMap) : State := { s with retired := x }
def State.withPermits (s : State) (x : List Permit) : State := { s with permits := x }
def State.withRoster (s : State) (x : List Staff) : State := { s with roster := x }
def State.withClock (s : State) (x : Clock) : State := { s with clock := x }
def State.withRooms (s : State) (x : Vector RoomState 6) : State := { s with rooms := x }
def State.withSlots (s : State) (x : Vector Slot 6) : State := { s with slots := x }
def State.withRoll (s : State) (x : List Presence) : State := { s with roll := x }
def State.withDoors (s : State) (x : Vector Door 6) : State := { s with doors := x }
def State.withStations (s : State) (x : Vector StationState 16) : State := { s with stations := x }
def State.withField (s : State) (x : FieldPort) : State := { s with field := x }
def State.withTrunk (s : State) (x : TrunkPort) : State := { s with trunk := x }
def State.withExecutor (s : State) (x : Executor) : State := { s with executor := x }
def State.withReports (s : State) (x : Reports) : State := { s with reports := x }
def State.withLastSeen (s : State) (x : Vector (Option LastPresentation) 16) : State := { s with lastSeen := x }

/-! ## The timebase (02 R31) -/

/-- The timebase reaches a moment; it never goes back. -/
def State.advance (s : State) (moment : Nat) : State := s.withNow (max s.now moment)

/-- A timer started now with a duration. -/
def State.startTimer (s : State) (duration : Nat) : Countdown := { duration := duration, ends := s.now + duration }

/-- Whether the part is RUNNING (11 R177). -/
def State.isRunning (s : State) : Bool := s.phase == .running

/-! ## The alarm queue (10 R171, R172) -/

/-- The coalescing key of an alarm (10 R171). -/
def Alarm.key (a : Alarm) : AlarmKind × Option RoomId × Option Nat × Option Nat :=
  (a.detail.kind, a.room, a.credential, a.station)

/-- A waiting alarm taking in a later one of its key: the count rises, held at 255, and the detail is replaced (10 R171). -/
def Alarm.absorb (waiting new : Alarm) : Alarm :=
  { waiting with repeats := countUp waiting.repeats, detail := new.detail }

/-- An alarm offered to the queue: it coalesces, enters, or is discarded with the overflow flag set (10 R171, R172). -/
def Reports.offerAlarm (q : Reports) (a : Alarm) : Reports :=
  if q.alarms.any (fun b => b.key == a.key) then
    { q with alarms := q.alarms.map fun b => if b.key == a.key then b.absorb a else b }
  else if q.alarms.length < Config.alarmPlaces then { q with alarms := q.alarms ++ [a] }
  else { q with overflow := true }

/-- The alarm that a block raises now (10 R176). -/
def State.alarmNow (s : State) (room : Option RoomId) (credential : Option Nat) (station : Option Nat)
    (detail : AlarmDetail) : Alarm :=
  { minute := s.clock.minute, second := s.clock.second, room := room, credential := credential, station := station,
    repeats := 0, detail := detail }

/-- An alarm raised with the estate minute and second of the clock at that moment (10 R176). -/
def State.raise (s : State) (room : Option RoomId) (credential : Option Nat) (station : Option Nat)
    (detail : AlarmDetail) : State :=
  s.withReports (s.reports.offerAlarm (s.alarmNow room credential station detail))

/-! ## The routine queue and the answer queue (10 R173, R174) -/

/-- A routine item enters at the end, or is discarded and counted (10 R174). -/
def Reports.offerRoutine (q : Reports) (i : RoutineItem) : Reports :=
  if q.routine.length < Config.routinePlaces then { q with routine := q.routine ++ [i] }
  else { q with discards := countUp q.discards }

def State.offerRoutine (s : State) (i : RoutineItem) : State := s.withReports (s.reports.offerRoutine i)

/-- The executor puts an answer at the end of the answer queue (10 R173). -/
def State.answer (s : State) (r : Request) (status : Status) (data : AnswerData) : State :=
  s.withReports { s.reports with
    answers := s.reports.answers ++ [{ tag := r.tag, name := r.name, status := status, data := data }] }

/-! ## The Room Table (chapter 3) -/

def State.roomSettings (s : State) (r : RoomId) : RoomSettings := look s.settings.rooms r
def State.room (s : State) (r : RoomId) : RoomState := look s.rooms r
def State.slot (s : State) (r : RoomId) : Slot := look s.slots r
def State.door (s : State) (r : RoomId) : Door := look s.doors r
def State.station (s : State) (a : StationId) : StationState := look s.stations a
def State.stationSettings (s : State) (a : StationId) : StationSettings := look s.settings.stations a
def State.program (s : State) (p : ProgramId) : List Step := look s.settings.programs p

def State.setRoom (s : State) (r : RoomId) (x : RoomState) : State := s.withRooms (put s.rooms r x)
def State.setSlot (s : State) (r : RoomId) (x : Slot) : State := s.withSlots (put s.slots r x)
def State.setDoor (s : State) (r : RoomId) (x : Door) : State := s.withDoors (put s.doors r x)
def State.setStation (s : State) (a : StationId) (x : StationState) : State := s.withStations (put s.stations a x)

/-- The room and place of a field address among the enabled rooms, or none (03 R44). -/
def State.placeOf (s : State) (address : Nat) : Option (RoomId × Place) :=
  allRooms.findSome? fun r => ((s.roomSettings r).placeOf address).map fun p => (r, p)

/-- The enabled room whose lock driver an address is (03 R44). -/
def State.driverRoom (s : State) (address : Nat) : Option RoomId :=
  match s.placeOf address with
  | some (r, .lockDriver) => some r
  | _ => none

/-- The base of a room's entry reader (03 R53). -/
def State.entryBase (s : State) (r : RoomId) : Indication :=
  if (s.room r).mode = .locked then .lockedOut
  else match s.slot r with
    | .party _ => .wait
    | .lead l => if l.kind = .waiting then .wait else .idle
    | .empty => .idle

def OverlayImage.indication : OverlayImage → Indication
  | .granted => .granted
  | .denied => .denied

/-- The entry indication image: the overlay while its timer runs, the base otherwise (03 R53). -/
def State.entryImage (s : State) (r : RoomId) : Indication :=
  match (s.room r).entryOverlay with
  | some o => o.image.indication
  | none => s.entryBase r

/-- The exit indication image; its base is IDLE (03 R53). -/
def State.exitImage (s : State) (r : RoomId) : Indication :=
  match (s.room r).exitOverlay with
  | some o => o.image.indication
  | none => .idle

/-- The overlay an outcome sets (03 R54). -/
def overlayOf : VerdictOutcome → Option OverlayImage
  | .grant | .exit | .exitOther | .exitUnmatched | .checkInOk => some .granted
  | .deny | .checkInUnmatched | .leadTimeout => some .denied
  | .pending | .pendingLead => none

/-- An overlay set at a reader for a full 3 s (03 R53). -/
def State.setOverlay (s : State) (r : RoomId) (d : Direction) (image : OverlayImage) : State :=
  let o : Overlay := { image := image, timer := s.startTimer Config.overlayMillis }
  match d with
  | .entry => s.setRoom r { s.room r with entryOverlay := some o }
  | .exit => s.setRoom r { s.room r with exitOverlay := some o }

/-- The overlay that a verdict sets at its reader (03 R54). -/
def State.showOutcome (s : State) (place : Option (RoomId × Direction)) (outcome : VerdictOutcome) : State :=
  match place, overlayOf outcome with
  | some (r, d), some image => s.setOverlay r d image
  | _, _ => s

/-- The roll state of a room set (03 R52). -/
def State.setRollState (s : State) (r : RoomId) (x : RollState) : State := s.setRoom r { s.room r with rollState := x }

/-- The zone test of a room (03 R43). -/
def State.inZone (s : State) (r : RoomId) (mask : ZoneMask) : Bool :=
  zoneTest s.settings.part.groupMode (s.room r).zoneIndex mask

/-- The zone indices of all six rooms computed anew (03 R42). -/
def State.recomputeZones (s : State) : State :=
  s.withRooms (Vector.ofFn fun r => { s.room r with zoneIndex := zoneIndexOf s.settings.part (s.roomSettings r).roomCode })

/-! ## Lookups (01 R6, 06 R105) -/

def State.permitOf (s : State) (c : Nat) : Option Permit := s.permits.find? fun p => p.credential == c
def State.staffOf (s : State) (c : Nat) : Option Staff := s.roster.find? fun t => t.credential == c

/-- A credential's presence record, in any room (06 R105). -/
def State.presenceOf (s : State) (c : Nat) : Option Presence := s.roll.find? fun p => p.credential == c

/-- The presence records of a room, in roll order (06 R105). -/
def State.recordsOf (s : State) (r : RoomId) : List Presence := s.roll.filter fun p => p.room == r

/-- The number of presence records in a room (06 R105). -/
def State.roomCount (s : State) (r : RoomId) : Nat := (s.recordsOf r).length

/-- Whether a record's escort link names a staff credential (06 R105). -/
def Presence.linkedTo (p : Presence) (staff : Nat) : Bool :=
  match p.contractor with
  | some c => c.escort == some staff
  | none => false

/-- The linked count of a staff credential, counted afresh (06 R105). -/
def State.linkedCount (s : State) (staff : Nat) : Nat := s.roll.countP fun p => p.linkedTo staff

/-- Whether a slot is a party with a member of a credential. -/
def Slot.holdsMember (slot : Slot) (c : Nat) : Bool :=
  match slot with
  | .party p => p.members.any fun m => m.credential == c
  | _ => false

/-- The room in whose party a credential waits (05 R81). -/
def State.partyRoomOf (s : State) (c : Nat) : Option RoomId :=
  allRooms.find? fun r => (s.slot r).holdsMember c

/-- The room and kind of the lead a staff credential holds (05 R81). -/
def State.leadOf (s : State) (c : Nat) : Option (RoomId × LeadKind) :=
  allRooms.findSome? fun r => match s.slot r with
    | .lead l => if l.staff = c then some (r, l.kind) else none
    | _ => none

def Slot.isParty : Slot → Bool
  | .party _ => true
  | _ => false

def Slot.isLead : Slot → Bool
  | .lead _ => true
  | _ => false

/-- The number of rooms whose slot holds a party (08 R144). -/
def State.partiesPending (s : State) : Nat := allRooms.countP fun r => (s.slot r).isParty

/-- The number of rooms whose slot holds a lead (01 R22). -/
def State.leadsHeld (s : State) : Nat := allRooms.countP fun r => (s.slot r).isLead

/-- What a slot holds, as the READ requests report it. -/
def Slot.picture : Slot → SlotPicture
  | .empty => .neither
  | .party p => .party p.members.length
  | .lead l => .lead l.kind

/-! ## Windows and members of the Party Unit (chapter 5) -/

/-- A window started now with the escort window in force (05 R82). -/
def State.startWindow (s : State) : Countdown := s.startTimer (s.settings.part.escortWindow * 1000)

/-- A slot after a credential has left its party: the others keep their order, and an empty party is cleared (05 R85, R99). -/
def Slot.without (slot : Slot) (c : Nat) : Slot :=
  match slot with
  | .party p =>
    if p.members.any (fun m => m.credential == c) then
      match p.members.filter fun m => m.credential != c with
      | [] => .empty
      | m :: ms => .party { p with members := m :: ms }
    else slot
  | _ => slot

/-- A contractor leaves any party at a room other than `r`, without a verdict (05 R85, R99). -/
def State.leaveOtherParty (s : State) (r : RoomId) (c : Nat) : State :=
  s.withSlots (Vector.ofFn fun q => if q = r then s.slot q else (s.slot q).without c)

/-- A slot after a staff member's WAITING lead in it has ended (04 R64). -/
def Slot.withoutWaiting (slot : Slot) (staff : Nat) : Slot :=
  match slot with
  | .lead l => if l.staff = staff ∧ l.kind = .waiting then .empty else slot
  | _ => slot

/-- A staff member's WAITING lead at any room other than `r` is cleared without a verdict (04 R64). -/
def State.clearWaitingElsewhere (s : State) (r : RoomId) (staff : Nat) : State :=
  s.withSlots (Vector.ofFn fun q => if q = r then s.slot q else (s.slot q).withoutWaiting staff)

/-! ## Verdicts (04 R78, 03 R54) -/

/-- A verdict before its optional fields are filled, with the clock read for it (04 R78). -/
def State.verdict (s : State) (place : Option (RoomId × Direction)) (reader : Nat) (credential : Nat)
    (level : Nat) (intent : Option Intent) (outcome : VerdictOutcome) (reason : Reason) : Verdict :=
  { minute := s.clock.minute, second := s.clock.second, stale := s.clock.timeState = .stale, place := place,
    reader := reader, credential := credential, issueLevel := level, intent := intent, outcome := outcome,
    reason := reason, permitNumber := none, grantIndex := none, escort := none, allowance := none, partySize := none,
    removed := none }

/-- A verdict is reached: its overlay is set and its VERDICT item is offered to the routine queue (03 R54, 04 R78). -/
def State.issue (s : State) (v : Verdict) : State :=
  (s.showOutcome v.place v.outcome).offerRoutine (.verdict v)

/-- A verdict that sets no overlay, as those of a change to LOCKED (03 R50). -/
def State.issueSilently (s : State) (v : Verdict) : State := s.offerRoutine (.verdict v)

/-- The verdict of the Party Unit for a member of a room's party, with the party size (05 R101). -/
def State.memberVerdict (s : State) (r : RoomId) (m : Member) (size : Nat) (outcome : VerdictOutcome) (reason : Reason) :
    Verdict :=
  { s.verdict (some (r, .entry)) (s.roomSettings r).entryReader m.credential m.issueLevel none outcome reason with
    permitNumber := some m.permitNumber, grantIndex := some m.grantIndex, partySize := some size }

/-- Every member denied with one reason, in member order, each with its overlay. -/
def State.denyMembers (s : State) (r : RoomId) (size : Nat) (reason : Reason) (members : List Member) : State :=
  members.foldl (fun s m => s.issue (s.memberVerdict r m size .deny reason)) s

/-- The members of a room's party are denied in member order and the slot is cleared; a lead of either kind is cleared
without a verdict (05 R94, R98). -/
def State.breakSlot (s : State) (r : RoomId) (reason : Reason) : State :=
  match s.slot r with
  | .party p => (s.denyMembers r p.members.length reason p.members).setSlot r .empty
  | .lead _ => s.setSlot r .empty
  | .empty => s

/-! ## Grant notices (01 R16) -/

/-- A permit record after a grant notice at a level and a minute (01 R16). -/
def Permit.granted (p : Permit) (level : Nat) (minute : Nat) : Permit :=
  { p with
    lastEntry := some minute
    lock := match p.lock with
      | .learn => .fixed level
      | l => l }

/-- A grant notice for a contractor (01 R16). -/
def State.grantNotice (s : State) (c : Nat) (level : Nat) : State :=
  s.withPermits (s.permits.map fun p => if p.credential = c then p.granted level s.clock.minute else p)

end Sys2Proof.Machine
end

