-- ==== Sys2Proof/Machine/Expiries.lean ====
section
/-! DEFINITION. The meanings of the timer expiries of the Party Unit, the indication overlays and the trunk silence timer
(chapters 3, 5 and 9). -/

namespace Sys2Proof.Machine

/-- PARTY_WINDOW_EXPIRY: every member is denied ESCORT_TIMEOUT in member order, and the party is cleared (05 R94). -/
def execPartyWindowExpiry (r : RoomId) (s : State) : Host.Outcome State Fault Refusal :=
  .next
    (if s.isRunning then
      match s.slot r with
      | .party p => (s.advance p.window.ends).breakSlot r .escortTimeout
      | _ => s
    else s)

/-- The verdict of an expired WAITING lead for its member of staff (05 R93). -/
def State.leadTimeoutVerdict (s : State) (r : RoomId) (l : Lead) : Verdict :=
  s.verdict (some (r, .entry)) (s.roomSettings r).entryReader l.staff l.issueLevel none .leadTimeout .none

/-- LEAD_WINDOW_EXPIRY: the lead is cleared, with one LEAD_TIMEOUT verdict where it was WAITING (05 R93). -/
def execLeadWindowExpiry (r : RoomId) (s : State) : Host.Outcome State Fault Refusal :=
  .next
    (if s.isRunning then
      match s.slot r with
      | .lead l =>
        let s1 := (s.advance l.window.ends).setSlot r .empty
        match l.kind with
        | .entered => s1
        | .waiting => s1.issue (s1.leadTimeoutVerdict r l)
      | _ => s
    else s)

/-- OVERLAY_EXPIRY: the overlay ends and the image returns to the base as it then stands (03 R53). -/
def execOverlayExpiry (r : RoomId) (d : Direction) (s : State) : Host.Outcome State Fault Refusal :=
  .next
    (if s.isRunning then
      match d with
      | .entry => match (s.room r).entryOverlay with
        | some o => (s.advance o.timer.ends).setRoom r { s.room r with entryOverlay := none }
        | none => s
      | .exit => match (s.room r).exitOverlay with
        | some o => (s.advance o.timer.ends).setRoom r { s.room r with exitOverlay := none }
        | none => s
    else s)

/-- The trunk port when the silence timer has expired at a moment: an ONLINE link becomes SILENT (09 R159). -/
def TrunkPort.fallSilent (p : TrunkPort) (moment : Nat) : TrunkPort :=
  match p.link with
  | .online => { p with link := .silent, silenceTimer := none, silentSince := some moment }
  | .silent => { p with silenceTimer := none }

/-- SILENCE_TIMER_EXPIRY (09 R159). -/
def execSilenceTimerExpiry (s : State) : Host.Outcome State Fault Refusal :=
  .next
    (if s.isRunning then
      match s.trunk.silenceTimer with
      | some c =>
        let s1 := s.advance c.ends
        s1.withTrunk (s1.trunk.fallSilent s1.now)
      | none => s
    else s)

end Sys2Proof.Machine
end

