-- ==== Sys2Proof/Machine/Doors.lean ====
section
/-! DEFINITION. Door Control (chapter 7): the steps and ends of release programs, release requests, the lock driver's events,
faults and the driver's change of online state. -/

namespace Sys2Proof.Machine

/-! ## Steps of a program on one door (07 R129, R134) -/

/-- The held timer started from zero with the room's held limit (07 R124, R134). -/
def heldFrom (now : Nat) (room : RoomSettings) : Countdown :=
  { duration := room.heldLimit * 1000, ends := now + room.heldLimit * 1000 }

/-- An action step: its effect on the image, the door state and the held timer. A WAIT is no action (07 R129, R134). -/
def Door.act (now : Nat) (room : RoomSettings) (d : Door) : Step → Door
  | .unlock =>
    let d' := { d with image := { d.image with unlocked := true } }
    match d.state with
    | .secure => { d' with state := .released }
    | .forced =>
      { d' with state := .opened, heldTimer := if d.image.shunt then none else some (heldFrom now room) }
    | _ => d'
  | .lock =>
    let d' := { d with image := { d.image with unlocked := false } }
    match d.state with
    | .released => { d' with state := .secure }
    | _ => d'
  | .sounderOn => { d with image := { d.image with sounder := true } }
  | .sounderOff => { d with image := { d.image with sounder := false } }
  | .beaconOn => { d with image := { d.image with beacon := true } }
  | .beaconOff => { d with image := { d.image with beacon := false } }
  | .shuntOn =>
    { d with
      image := { d.image with shunt := true }
      heldTimer := if !d.image.shunt && d.state == .opened then none else d.heldTimer }
  | .shuntOff =>
    { d with
      image := { d.image with shunt := false }
      heldTimer := if d.image.shunt && d.state == .opened then some (heldFrom now room) else d.heldTimer }
  | .wait _ => d

/-- The end actions: the lock LOCKED, the sounder, beacon and shunt OFF, no running program, the WAIT timer stopped (07
R131). -/
def Door.endActions (now : Nat) (room : RoomSettings) (d : Door) : Door :=
  let d' := [Step.lock, .sounderOff, .beaconOff, .shuntOff].foldl (Door.act now room) d
  { d' with program := none, waitTimer := none }

/-- A running program, if there is one, ended early with the end actions (07 R131, R133). -/
def Door.endProgram (now : Nat) (room : RoomSettings) (d : Door) : Door :=
  if d.program.isSome then d.endActions now room else d

/-- Whether a step is a WAIT. -/
def Step.isWait : Step → Bool
  | .wait _ => true
  | _ => false

/-- The number, counted from 1, of the WAIT step that the dwell offset adjusts: the first WAIT after the first UNLOCK (07
R130). -/
def adjustedWait (steps : List Step) : Option Nat :=
  match steps.findIdx? (fun x => x == .unlock) with
  | none => none
  | some u => ((steps.drop (u + 1)).findIdx? Step.isWait).map (· + u + 2)

/-- The unit count of a WAIT step, adjusted where it is the program's adjusted one (07 R130). -/
def waitUnits (room : RoomSettings) (adjusted : Option Nat) (k n : Nat) : Nat :=
  if adjusted = some k then (clamp ((n : Int) + room.dwellOffset) 1 127).toNat else n

/-- The steps from number `k` on, taken in order until a WAIT begins or the program ends after its last step (07 R129,
R131). -/
def Door.takeSteps (now : Nat) (room : RoomSettings) (adjusted : Option Nat) : Nat → List Step → Door → Door
  | _, [], d => d.endActions now room
  | k, .wait n :: _, d =>
    let ms := waitUnits room adjusted k n * Config.waitUnitMillis
    { d with
      program := d.program.map fun p => { p with current := k }
      waitTimer := some { duration := ms, ends := now + ms } }
  | k, x :: rest, d => Door.takeSteps now room adjusted (k + 1) rest (d.act now room x)

/-- A program started, or restarted in place of the one that runs: a copy of the steps, taken from the first. A restart
applies no end actions and does not touch the held timer (07 R132). -/
def Door.start (now : Nat) (room : RoomSettings) (kind : Direction) (number : ProgramId) (steps : List Step) (d : Door) :
    Door :=
  Door.takeSteps now room (adjustedWait steps) 1 steps
    { d with program := some { kind := kind, number := number, steps := steps, current := 1 }, waitTimer := none }

/-- The WAIT timer's expiry: the steps after the current one are taken (07 R129). -/
def Door.afterWait (now : Nat) (room : RoomSettings) (d : Door) : Door :=
  match d.program with
  | none => { d with waitTimer := none }
  | some p =>
    Door.takeSteps now room (adjustedWait p.steps) (p.current + 1) (p.steps.drop p.current) { d with waitTimer := none }

/-! ## Release requests (07 R132) -/

/-- The program a release of a kind selects at a room (07 R132). -/
def State.selectedProgram (s : State) (r : RoomId) : Direction → ProgramId
  | .entry => (s.roomSettings r).entryProgram
  | .exit => (s.roomSettings r).exitProgram

/-- A release request: an empty program does nothing, and one with steps starts or restarts (07 R132). -/
def State.release (s : State) (r : RoomId) (kind : Direction) : State :=
  let number := s.selectedProgram r kind
  match s.program number with
  | [] => s
  | step :: rest => s.setDoor r ((s.door r).start s.now (s.roomSettings r) kind number (step :: rest))

/-- What a release request does: EMPTY, RESTARTED or STARTED (07 R140). -/
def State.releaseResult (s : State) (r : RoomId) (kind : Direction) : ReleaseResult :=
  if (s.program (s.selectedProgram r kind)).isEmpty then .empty
  else if (s.door r).program.isSome then .restarted
  else .started

/-- A room's running program of any of some kinds ended with the end actions (07 R133). -/
def State.cancelProgram (s : State) (r : RoomId) : State :=
  s.setDoor r ((s.door r).endProgram s.now (s.roomSettings r))

/-! ## Faults (07 R136, R138) -/

/-- An alarm of Door Control: it names the room and the room's lock driver, and no credential (07 R141). -/
def State.raiseDoor (s : State) (r : RoomId) (detail : AlarmDetail) : State :=
  s.raise (some r) none (some (s.roomSettings r).lockDriver) detail

/-- The door enters FAULT: a running program ends with the end actions, the held timer stops, DOOR_FAULT is raised, and the
Party Unit is told (07 R136, R138, 05 R98). -/
def State.enterFault (s : State) (r : RoomId) (cause : FaultCause) : State :=
  let before := (s.door r).state
  let d := (s.door r).endProgram s.now (s.roomSettings r)
  let s1 := s.setDoor r { d with state := .fault, cause := some cause, heldTimer := none }
  (s1.raiseDoor r (.doorFault cause before)).breakSlot r .doorFault

/-- The lock driver of an enabled room went OFFLINE (07 R138). -/
def State.driverOffline (s : State) (r : RoomId) : State :=
  match (s.door r).state with
  | .fault | .faultHold => s
  | _ => s.enterFault r .offline

/-- The door put to SECURE with its fault over: a running program ends with the end actions and the cause becomes absent (07
R137, R138). -/
def State.secureAgain (s : State) (r : RoomId) : State :=
  let d := (s.door r).endProgram s.now (s.roomSettings r)
  s.setDoor r { d with state := .secure, cause := none }

/-- The lock driver of an enabled room came ONLINE from OFFLINE (07 R138). -/
def State.driverOnline (s : State) (r : RoomId) : State :=
  if (s.door r).state = .fault ∧ (s.door r).cause = some .offline then s.secureAgain r else s

/-! ## The lock driver's events (07 R124 to R126, R135 to R137) -/

/-- OPENED (07 R124, R126). -/
def State.doorOpened (s : State) (r : RoomId) : State :=
  let d := s.door r
  match d.state with
  | .secure =>
    let s1 := s.setDoor r { d with state := .forced }
    (s1.raiseDoor r (.doorForced (s.roomCount r) d.program.isSome)).setRollState r .uncertain
  | .released =>
    s.setDoor r { d with
      state := .opened
      heldTimer := if d.image.shunt then none else some (heldFrom s.now (s.roomSettings r)) }
  | _ => s

/-- CLOSED (07 R125). -/
def State.doorClosed (s : State) (r : RoomId) : State :=
  let d := s.door r
  let shut : DoorState := if d.image.unlocked then .released else .secure
  match d.state with
  | .opened => s.setDoor r { d with state := shut, heldTimer := none }
  | .held => s.setDoor r { d with state := shut }
  | .forced => s.setDoor r { d with state := .secure }
  | _ => s

/-- BUTTON: a release request of kind EXIT, and the room's roll state UNCERTAIN (07 R135, 03 R52). -/
def State.exitButton (s : State) (r : RoomId) : State := (s.release r .exit).setRollState r .uncertain

/-- FAULT (07 R136). -/
def State.driverFault (s : State) (r : RoomId) : State :=
  if (s.door r).state = .fault then s else s.enterFault r .reported

/-- FAULT_CLEARED (07 R137). -/
def State.faultCleared (s : State) (r : RoomId) : State :=
  if (s.door r).state = .fault ∧ (s.door r).cause = some .reported then
    s.setDoor r { s.door r with state := .faultHold }
  else s

/-- One event of a lock driver's list. -/
def State.driverEvent (s : State) (r : RoomId) : DriverEvent → State
  | .opened => s.doorOpened r
  | .closed => s.doorClosed r
  | .button => s.exitButton r
  | .fault => s.driverFault r
  | .faultCleared => s.faultCleared r

/-- An event list taken in list order, each event whole (07 R124). -/
def State.driverEvents (s : State) (r : RoomId) (events : List DriverEvent) : State :=
  events.foldl (fun s e => s.driverEvent r e) s

/-! ## Timer expiries (07 R127, R129) -/

/-- The held timer's expiry: HELD and DOOR_HELD, with the limit the timer ran for (07 R127). -/
def State.heldExpired (s : State) (r : RoomId) (c : Countdown) : State :=
  let s1 := s.setDoor r { s.door r with state := .held, heldTimer := none }
  s1.raiseDoor r (.doorHeld (c.duration / 1000) (s.door r).program.isSome)

/-! ## A fresh start (07 R139) -/

/-- Whether the station of a room's lock driver is held OFFLINE (07 R137, R139). -/
def State.driverIsOffline (s : State) (r : RoomId) : Bool :=
  match stationOfAddress (s.roomSettings r).lockDriver with
  | some a => (s.station a).online == .offline
  | none => false

/-- The door of a room just enabled, or whose lock driver was just changed: any program ended, timers stopped, the cause
absent, and SECURE, or FAULT with cause OFFLINE and its alarm where the driver's station is OFFLINE (07 R139, log 25). -/
def State.freshStart (s : State) (r : RoomId) : State :=
  let before := (s.door r).state
  let d := (s.door r).endProgram s.now (s.roomSettings r)
  let clear := { d with waitTimer := none, heldTimer := none }
  if s.driverIsOffline r then
    (s.setDoor r { clear with state := .fault, cause := some .offline }).raiseDoor r (.doorFault .offline before)
  else s.setDoor r { clear with state := .secure, cause := none }

/-- The door of a room just disabled (07 R139, 03 R48). -/
def State.closeDown (s : State) (r : RoomId) : State :=
  let d := (s.door r).endProgram s.now (s.roomSettings r)
  s.setDoor r { d with state := .secure, cause := none, waitTimer := none, heldTimer := none }

end Sys2Proof.Machine
end

