-- ==== Sys2Proof/Machine/Roll.lean ====
section
/-! DEFINITION. The Occupancy Roll (chapter 6): additions, departures with relinking and partner handling, the lone condition,
the minute walk and withdrawal notices. -/

namespace Sys2Proof.Machine

/-! ## Records -/

/-- A staff member's presence record (06 R103). -/
def State.staffPresence (s : State) (r : RoomId) (c : Nat) : Presence :=
  { room := r, credential := c, entryMinute := s.clock.minute, entrySecond := s.clock.second, contractor := none }

/-- A contractor's presence record: what the deciding block carries, and the flags clear (06 R103, 04 R75). -/
def State.contractorPresence (s : State) (r : RoomId) (c : Nat) (permitNumber grantIndex : Nat) (rule : EscortRule)
    (company allowance : Nat) (escort partner : Option Nat) : Presence :=
  { room := r, credential := c, entryMinute := s.clock.minute, entrySecond := s.clock.second
    contractor := some
      { permitNumber := permitNumber, grantIndex := grantIndex, rule := rule, company := company
        stayDeadline := addMinutes s.clock.minute allowance, checkIn := .absent, escort := escort, partner := partner
        overstayRaised := false, checkInOverdue := 0, unescorted := false, withdrawn := false } }

/-- A change of a record's contractor part. -/
def Presence.mapContractor (p : Presence) (f : ContractorPart → ContractorPart) : Presence :=
  { p with contractor := p.contractor.map f }

/-- A change of every record of a credential. -/
def State.changeRecord (s : State) (c : Nat) (f : ContractorPart → ContractorPart) : State :=
  s.withRoll (s.roll.map fun p => if p.credential = c then p.mapContractor f else p)

/-! ## The lone condition (06 R110) -/

/-- The contractor records of a room are counted (06 R110). -/
def State.contractorCount (s : State) (r : RoomId) : Nat := s.roll.countP fun p => p.room == r && p.contractor.isSome

/-- The staff records of a room are counted (06 R110). -/
def State.staffCount (s : State) (r : RoomId) : Nat := s.roll.countP fun p => p.room == r && p.contractor.isNone

/-- The lone condition (06 R110). -/
def State.isLone (s : State) (r : RoomId) : Bool :=
  0 < (s.roomSettings r).checkInInterval && s.contractorCount r == 1 && s.staffCount r == 0

/-- A contractor record when the lone condition holds: a deadline is created where there is none (06 R110). -/
def ContractorPart.watched (deadline : Nat) (c : ContractorPart) : ContractorPart :=
  match c.checkIn with
  | .absent => { c with checkIn := .armed deadline, checkInOverdue := 0 }
  | _ => c

/-- A contractor record when the lone condition does not hold: a deadline is dropped with its count (06 R110). -/
def ContractorPart.unwatched (c : ContractorPart) : ContractorPart :=
  match c.checkIn with
  | .absent => c
  | _ => { c with checkIn := .absent, checkInOverdue := 0 }

/-- The lone condition of a room evaluated (06 R110). -/
def State.evaluateLone (s : State) (r : RoomId) : State :=
  let change : ContractorPart → ContractorPart :=
    if s.isLone r then ContractorPart.watched (addMinutes s.clock.minute (s.roomSettings r).checkInInterval)
    else ContractorPart.unwatched
  s.withRoll (s.roll.map fun p => if p.room = r then p.mapContractor change else p)

/-! ## Additions (06 R104) -/

/-- Records added at the end of the roll order, after which the lone condition of their room is evaluated once (06 R104). -/
def State.addRecords (s : State) (r : RoomId) (records : List Presence) : State :=
  (s.withRoll (s.roll ++ records)).evaluateLone r

/-! ## Departures (06 R106 to R108) -/

/-- Whether a staff record's roster record is active and has a place free (06 R107). -/
def State.canEscort (s : State) (c : Nat) : Bool :=
  match s.staffOf c with
  | some t => t.active && s.linkedCount c < t.ratio
  | none => false

/-- The first staff record of a room, in roll order, that can take a contractor (06 R107). -/
def State.escortFor (s : State) (r : RoomId) : Option Nat :=
  (s.roll.find? fun p => p.room == r && p.contractor.isNone && s.canEscort p.credential).map Presence.credential

/-- One contractor of a departed staff member relinked, or marked UNESCORTED with ESCORT_LEFT (06 R107). -/
def State.relink (s : State) (r : RoomId) (departed : Nat) (cause : DepartureCause) (c : Nat) : State :=
  match s.escortFor r with
  | some staff => s.changeRecord c fun k => { k with escort := some staff }
  | none =>
    (s.changeRecord c fun k => { k with escort := none, unescorted := true }).raise (some r) (some c) none
      (.escortLeft departed cause)

/-- The ENTERED lead a staff member holds at a room ends without a verdict (05 R92). -/
def State.endEnteredLead (s : State) (r : RoomId) (staff : Nat) : State :=
  match s.slot r with
  | .lead l => if l.staff = staff ∧ l.kind = .entered then s.setSlot r .empty else s
  | _ => s

/-- Step 2 of a departure: a staff member's contractors, in roll order, and then the ENTERED lead (06 R106, R107). -/
def State.staffLeft (s : State) (r : RoomId) (staff : Nat) (cause : DepartureCause) : State :=
  let linked := (s.roll.filter fun p => p.linkedTo staff).map Presence.credential
  (linked.foldl (fun s c => s.relink r staff cause c) s).endEnteredLead r staff

/-- Whether a record's partner link names a credential. -/
def Presence.partnerOf (p : Presence) (c : Nat) : Bool :=
  match p.contractor with
  | some k => k.partner == some c
  | none => false

/-- Step 3 of a departure: the partner's link cleared, with PARTNER_LEFT, where it still names the departed (06 R108). -/
def State.partnerLeft (s : State) (r : RoomId) (departed partner : Nat) (cause : DepartureCause) : State :=
  match s.presenceOf partner with
  | some p =>
    if p.partnerOf departed then
      (s.changeRecord partner fun k => { k with partner := none }).raise (some r) (some partner) none
        (.partnerLeft departed cause)
    else s
  | none => s

/-- Steps 2 and 3 of a departure for one removed record (06 R106). -/
def State.afterRemoval (s : State) (cause : DepartureCause) (p : Presence) : State :=
  match p.contractor with
  | none => s.staffLeft p.room p.credential cause
  | some k => match k.partner with
    | some partner => s.partnerLeft p.room p.credential partner cause
    | none => s

/-- The records of a room that a test picks leave as one departure event: all are removed, each is handled in roll order, and
the lone condition of the room is evaluated once at the end (06 R106). -/
def State.depart (s : State) (r : RoomId) (gone : Presence → Bool) (cause : DepartureCause) : State :=
  let removed := s.roll.filter fun p => p.room == r && gone p
  let s1 := s.withRoll (s.roll.filter fun p => !(p.room == r && gone p))
  (removed.foldl (fun s p => s.afterRemoval cause p) s1).evaluateLone r

/-- One record's departure (06 R106). -/
def State.departOne (s : State) (p : Presence) (cause : DepartureCause) : State :=
  s.depart p.room (fun q => q.credential == p.credential) cause

/-! ## The minute walk (06 R109, R111, R113) -/

/-- An alarm of the roll: it names the record's room and credential, and no station (06 R120). -/
def State.raiseFor (s : State) (p : Presence) (detail : AlarmDetail) : State :=
  s.raise (some p.room) (some p.credential) none detail

/-- The stay comparison of one record against the minute of the event (06 R109). A deadline equal to it is due, also that of a
record added just before the event with an allowance of 1, of which 06 R114 says otherwise (DESIGN CHOICE, log 42). -/
def State.stayCheck (s : State) (p : Presence) (t : Nat) : State :=
  match p.contractor with
  | none => s
  | some k =>
    if k.stayDeadline ≤ t ∧ k.overstayRaised = false then
      (s.changeRecord p.credential fun k => { k with overstayRaised := true }).raiseFor p
        (.overstay k.permitNumber p.entryMinute k.stayDeadline k.unescorted k.withdrawn)
    else s

/-- The check-in comparison of one record against the minute of the event (06 R111). A deadline equal to it is due, also one made
just before the event with an interval of 1 (DESIGN CHOICE, log 42). -/
def State.checkInCheck (s : State) (p : Presence) (t : Nat) : State :=
  match p.contractor with
  | none => s
  | some k =>
    match k.checkIn with
    | .armed deadline =>
      if deadline ≤ t then
        let interval := (s.roomSettings p.room).checkInInterval
        if k.checkInOverdue = 0 then
          (s.changeRecord p.credential fun k =>
              { k with checkIn := .armed (addMinutes deadline interval), checkInOverdue := 1 }).raiseFor p
            (.loneWorkerOverdue 1 deadline interval)
        else
          (s.changeRecord p.credential fun k => { k with checkIn := .spent deadline, checkInOverdue := 2 }).raiseFor p
            (.loneWorkerOverdue 2 deadline interval)
      else s
    | _ => s

/-- The roll taking a minute event: one walk in roll order, for each contractor record the stay comparison and then the
check-in comparison (06 R113). -/
def State.rollMinute (s : State) (t : Nat) : State :=
  s.roll.foldl (fun s p => (s.stayCheck p t).checkInCheck p t) s

/-! ## Withdrawal notices (06 R115) -/

/-- A withdrawal notice taken by the roll (06 R115). -/
def State.withdrawInside (s : State) (c : Nat) (state : PermitState) : State :=
  match s.presenceOf c with
  | none => s
  | some p => match p.contractor with
    | none => s
    | some k =>
      (s.changeRecord c fun k => { k with withdrawn := true }).raiseFor p
        (.permitWithdrawnInside state k.permitNumber k.stayDeadline)

/-! ## Where a holder is (01 R17, R21) -/

/-- A contractor's position: on the roll, in a party, or outside (01 R17). -/
def State.contractorPosition (s : State) (c : Nat) : Position :=
  match s.presenceOf c with
  | some p => .inside p.room
  | none => match s.partyRoomOf c with
    | some r => .inParty r
    | none => .outside

/-- A staff member's position: on the roll, leading from outside, or outside (01 R21). -/
def State.staffPosition (s : State) (c : Nat) : Position :=
  match s.presenceOf c with
  | some p => .inside p.room
  | none => match s.leadOf c with
    | some (r, kind) => .leading r kind
    | none => .outside

end Sys2Proof.Machine
end

