-- ==== Sys2Proof/Machine/Decision.lean ====
section
/-! DEFINITION. The Decision Engine and the Party Unit's decisions (chapters 4 and 5): screening, the staff and contractor
paths, parties, pairs, leads, completions, exits and check-ins. -/

namespace Sys2Proof.Machine

/-- A presentation as it is handed to the Decision Engine (04 section 4.1). -/
structure Presentation where
  reader : StationId
  credential : Nat
  issueLevel : Nat
  intent : Intent
  deriving DecidableEq, Repr

/-! ## Verdicts of a presentation -/

/-- A verdict for the presenter at a place, before its optional fields are filled (04 R78). -/
def State.presenterVerdict (s : State) (place : Option (RoomId × Direction)) (p : Presentation) (outcome : VerdictOutcome)
    (reason : Reason) : Verdict :=
  s.verdict place (fieldAddress p.reader) p.credential p.issueLevel (some p.intent) outcome reason

/-- A denial at an entry reader that carries no permit number (04 R61, R62). -/
def State.denyPlain (s : State) (r : RoomId) (p : Presentation) (reason : Reason) : State :=
  s.issue (s.presenterVerdict (some (r, .entry)) p .deny reason)

/-- A denial of a contractor whose permit was found, with the grant index where one is named (04 R66 to R78). -/
def State.denyContractor (s : State) (r : RoomId) (p : Presentation) (permitNumber : Nat) (grantIndex : Option Nat)
    (reason : Reason) : State :=
  s.issue { s.presenterVerdict (some (r, .entry)) p .deny reason with
    permitNumber := some permitNumber, grantIndex := grantIndex }

/-! ## The occupancy check (04 R74) -/

/-- The occupancy check for `n`: the room count first, then the roll's total; `none` where it passes (04 R74). -/
def State.noPlaceFor (s : State) (r : RoomId) (n : Nat) : Option Reason :=
  if (s.roomSettings r).occupancyLimit < s.roomCount r + n then some .roomFull
  else if Config.rollPlaces < s.roll.length + n then some .rollFull
  else none

/-! ## Passback (04 R70) -/

/-- The passback check: `none` where the presenter is denied ALREADY_INSIDE, else the state in which the decision goes on. A
removal raises PASSBACK and is taken by the roll as a departure (04 R70; the alarm comes first, 06 section 6.12). -/
def State.passback (s : State) (r : RoomId) (p : Presentation) : Option State :=
  match s.presenceOf p.credential with
  | none => some s
  | some q =>
    if (s.roomSettings r).passback = .hard ∧ (s.room q.room).rollState = .exact then none
    else
      some ((s.raise (some r) (some p.credential) (some (fieldAddress p.reader))
        (.passback q.room q.entryMinute)).departOne q .passback)

/-! ## Leads (05 R91) -/

/-- A lead opened at a room in place of whatever its slot held, with a fresh window (05 R91). -/
def State.openLead (s : State) (r : RoomId) (staff : Nat) (kind : LeadKind) (level : Nat) : State :=
  s.setSlot r (.lead { staff := staff, kind := kind, issueLevel := level, window := s.startWindow })

/-! ## Staff completion (05 R88 to R90) -/

/-- The bounds of a staff completion (05 R88): the ratio places, and the room and roll places held at 0. -/
structure Places where
  ratio : Nat
  room : Nat
  roll : Nat
  deriving DecidableEq, Repr

/-- The places of a completion by a staff member, `taken` being 1 when that member still needs one (05 R88). -/
def State.completionPlaces (s : State) (r : RoomId) (t : Staff) (taken : Nat) : Places :=
  { ratio := t.ratio - s.linkedCount t.credential
    room := (s.roomSettings r).occupancyLimit - (s.roomCount r + taken)
    roll := Config.rollPlaces - (s.roll.length + taken) }

/-- The released count (05 R88). -/
def Places.released (b : Places) (members : Nat) : Nat := min b.ratio (min b.room (min b.roll members))

/-- Why the member at position `i`, counted from 1, is turned away (05 R88). -/
def Places.reason (b : Places) (i : Nat) : Reason :=
  if b.ratio < i then .escortRatio else if b.room < i then .roomFull else .rollFull

/-- A waiting member's presence record at a staff completion (05 R89). -/
def State.memberPresence (s : State) (r : RoomId) (m : Member) (escort partner : Option Nat) : Presence :=
  s.contractorPresence r m.credential m.permitNumber m.grantIndex m.rule m.company m.allowance escort partner

/-- Grant notices for members in member order (05 R89). -/
def State.noticeMembers (s : State) (members : List Member) : State :=
  members.foldl (fun s m => s.grantNotice m.credential m.issueLevel) s

/-- The grant verdict of a member under an escort or a partner (05 R101). -/
def State.memberGrant (s : State) (r : RoomId) (m : Member) (size : Nat) (escort : Nat) : Verdict :=
  { s.memberVerdict r m size .grant .none with escort := some escort, allowance := some m.allowance }

/-- The members' verdicts of a staff completion, position by position (05 R88, R89). -/
def State.completionVerdicts (s : State) (r : RoomId) (size released : Nat) (b : Places) (staff : Nat) :
    Nat → List Member → State
  | _, [] => s
  | i, m :: rest =>
    let v := if i ≤ released then s.memberGrant r m size staff else s.memberVerdict r m size .deny (b.reason i)
    (s.issue v).completionVerdicts r size released b staff (i + 1) rest

/-- A completion whose staff member fits (05 R89). -/
def State.completeByStaff (s : State) (r : RoomId) (p : Presentation) (t : Staff) (party : Party) (outside : Bool) : State :=
  let size := party.members.length
  let b := s.completionPlaces r t (if outside then 1 else 0)
  let released := b.released size
  let goingIn := party.members.take released
  let records := (if outside then [s.staffPresence r p.credential] else [])
    ++ goingIn.map (fun m => s.memberPresence r m (some p.credential) none)
  let s1 := s.addRecords r records
  let s2 := s1.noticeMembers goingIn
  let s3 := (s2.openLead r p.credential .entered p.issueLevel).clearWaitingElsewhere r p.credential
  let s4 := if outside || 0 < released then s3.release r .entry else s3
  let s5 := if outside then
      s4.issue { s4.presenterVerdict (some (r, .entry)) p .grant .none with partySize := some size }
    else s4
  s5.completionVerdicts r size released b p.credential 1 party.members

/-- A staff member collects the party of a room (05 R88 to R90). -/
def State.staffCompletion (s : State) (r : RoomId) (p : Presentation) (t : Staff) (party : Party) : State :=
  let outside := match s.presenceOf p.credential with
    | some q => q.room != r
    | none => true
  match (if outside then s.noPlaceFor r 1 else none) with
  | some reason =>
    let size := party.members.length
    let s1 := s.setSlot r .empty
    let s2 := s1.issue { s1.presenterVerdict (some (r, .entry)) p .deny reason with partySize := some size }
    s2.denyMembers r size reason party.members
  | none => s.completeByStaff r p t party outside

/-! ## The staff path (04 R62 to R64) -/

/-- A staff GRANT on the staff path, opening an ENTERED lead where `lead` says so (04 R63, R64, R75). -/
def State.grantStaff (s : State) (r : RoomId) (p : Presentation) (lead : Bool) : State :=
  let s1 := s.addRecords r [s.staffPresence r p.credential]
  let s2 := if lead then s1.openLead r p.credential .entered p.issueLevel else s1
  let s3 := (s2.clearWaitingElsewhere r p.credential).release r .entry
  s3.issue (s3.presenterVerdict (some (r, .entry)) p .grant .none)

/-- A staff member goes in alone, or is denied for want of a place (04 R63). -/
def State.admitStaff (s : State) (r : RoomId) (p : Presentation) (lead : Bool) : State :=
  match s.noPlaceFor r 1 with
  | some reason => s.denyPlain r p reason
  | none => s.grantStaff r p lead

/-- PENDING_LEAD: a WAITING lead opens in place of any lead the room held (04 R63, R64). -/
def State.waitAsLead (s : State) (r : RoomId) (p : Presentation) : State :=
  let s1 := (s.openLead r p.credential .waiting p.issueLevel).clearWaitingElsewhere r p.credential
  s1.issue (s1.presenterVerdict (some (r, .entry)) p .pendingLead .none)

/-- A staff member who has passed passback, decided by the room's slot (04 R63). -/
def State.decideStaffSlot (s : State) (r : RoomId) (p : Presentation) (t : Staff) : State :=
  match s.slot r with
  | .party party => s.staffCompletion r p t party
  | .lead l =>
    if l.kind = .waiting ∧ l.staff ≠ p.credential then
      if t.mayEnterAlone then s.admitStaff r p false else s.denyPlain r p .partyBusy
    else if t.mayEnterAlone then s.admitStaff r p true else s.waitAsLead r p
  | .empty => if t.mayEnterAlone then s.admitStaff r p true else s.waitAsLead r p

/-- Whether a staff member inside a room presents there while a party waits: passback does not apply (04 R62). -/
def State.collectsFromInside (s : State) (r : RoomId) (c : Nat) : Bool :=
  (s.slot r).isParty && (match s.presenceOf c with
    | some q => q.room == r
    | none => false)

/-- The staff path (04 R62). A passback removal ends the presenter's ENTERED lead in the room of the record (04 R70, 05 R92), and a
failed occupancy check after it leaves that slot EMPTY, of which 04 R63 says that it stays as before (DESIGN CHOICE, log 49). -/
def State.decideStaff (s : State) (r : RoomId) (p : Presentation) (t : Staff) : State :=
  if !t.active then s.denyPlain r p .escortInactive
  else if !s.inZone r t.zoneMask then s.denyPlain r p .wrongZone
  else if s.collectsFromInside r p.credential then s.decideStaffSlot r p t
  else match s.passback r p with
    | none => s.denyPlain r p .alreadyInside
    | some s' => s'.decideStaffSlot r p t

/-! ## A contractor's grant (04 R75) -/

/-- A verdict for a contractor under the chosen grant (04 R78). -/
def State.contractorVerdict (s : State) (r : RoomId) (p : Presentation) (permit : Permit) (c : Chosen)
    (outcome : VerdictOutcome) (reason : Reason) : Verdict :=
  { s.presenterVerdict (some (r, .entry)) p outcome reason with
    permitNumber := some permit.permitNumber, grantIndex := some c.index }

/-- The presenter's presence record under the chosen grant (04 R75). -/
def State.presenterPresence (s : State) (r : RoomId) (p : Presentation) (permit : Permit) (c : Chosen)
    (escort partner : Option Nat) : Presence :=
  s.contractorPresence r p.credential permit.permitNumber c.index c.rule permit.company c.allowance escort partner

/-- A denial under the chosen grant (04 R78). -/
def State.denyChosen (s : State) (r : RoomId) (p : Presentation) (permit : Permit) (c : Chosen) (reason : Reason) : State :=
  s.issue (s.contractorVerdict r p permit c .deny reason)

/-- A GRANT on the contractor path, its six effects in order (04 R75). -/
def State.grantContractor (s : State) (r : RoomId) (p : Presentation) (permit : Permit) (c : Chosen)
    (escort : Option Nat) : State :=
  let s1 := s.addRecords r [s.presenterPresence r p permit c escort none]
  let s2 := s1.grantNotice p.credential p.issueLevel
  let s3 := s2.leaveOtherParty r p.credential
  let s4 := s3.release r .entry
  s4.issue { s4.contractorVerdict r p permit c .grant .none with allowance := some c.allowance, escort := escort }

/-- A contractor admitted on the occupancy check for 1, with or without an escort link (04 R71, R72). -/
def State.admitContractor (s : State) (r : RoomId) (p : Presentation) (permit : Permit) (c : Chosen)
    (escort : Option Nat) : State :=
  match s.noPlaceFor r 1 with
  | some reason => s.denyChosen r p permit c reason
  | none => s.grantContractor r p permit c escort

/-! ## Pair completion (05 R86, R87) -/

/-- The pair completed or both denied, the waiting member first (05 R86, R87). -/
def State.completePair (s : State) (r : RoomId) (p : Presentation) (permit : Permit) (c : Chosen) (m : Member)
    (size : Nat) : State :=
  match s.noPlaceFor r 2 with
  | some reason =>
    let s1 := s.setSlot r .empty
    let s2 := s1.issue (s1.memberVerdict r m size .deny reason)
    s2.issue { s2.contractorVerdict r p permit c .deny reason with partySize := some size }
  | none =>
    let s1 := s.addRecords r
      [s.memberPresence r m none (some p.credential), s.presenterPresence r p permit c none (some m.credential)]
    let s2 := (s1.grantNotice m.credential m.issueLevel).grantNotice p.credential p.issueLevel
    let s3 := (s2.setSlot r .empty).leaveOtherParty r p.credential
    let s4 := s3.release r .entry
    let s5 := s4.issue (s4.memberGrant r m size p.credential)
    s5.issue { s5.contractorVerdict r p permit c .grant .none with
      allowance := some c.allowance, escort := some m.credential, partySize := some size }

/-- A contractor meets a PAIR party: its first member is the partner (05 R84). -/
def State.joinPair (s : State) (r : RoomId) (p : Presentation) (permit : Permit) (c : Chosen) (party : Party) : State :=
  match party.members with
  | m :: _ => s.completePair r p permit c m party.members.length
  | [] => s

/-! ## Party handling (04 R73, 05 R83 to R85) -/

/-- The presenter as a member, with the values handed over (05 R83). -/
def memberOf (p : Presentation) (permit : Permit) (c : Chosen) : Member :=
  { credential := p.credential, permitNumber := permit.permitNumber, grantIndex := c.index, rule := c.rule,
    company := permit.company, allowance := c.allowance, issueLevel := p.issueLevel }

/-- The PENDING verdict of a contractor who starts or joins a party (05 R83, R84). -/
def State.issuePending (s : State) (r : RoomId) (p : Presentation) (permit : Permit) (c : Chosen) (size : Nat) : State :=
  s.issue { s.contractorVerdict r p permit c .pending .none with allowance := some c.allowance, partySize := some size }

/-- A contractor starts a party, in place of any lead it could not use (05 R83). -/
def State.startParty (s : State) (r : RoomId) (p : Presentation) (permit : Permit) (c : Chosen) : State :=
  let rule : PartyRule := if c.rule = .pair then .pair permit.company else .staff
  let s1 := s.setSlot r (.party { rule := rule, members := [memberOf p permit c], window := s.startWindow })
  (s1.leaveOtherParty r p.credential).issuePending r p permit c 1

/-- A contractor is decided against the party of the room (05 R84). -/
def State.joinParty (s : State) (r : RoomId) (p : Presentation) (permit : Permit) (c : Chosen) (party : Party) : State :=
  match party.rule with
  | .staff =>
    if party.members.length < Config.partyPlaces then
      let s1 := s.setSlot r (.party { party with members := party.members ++ [memberOf p permit c] })
      (s1.leaveOtherParty r p.credential).issuePending r p permit c (party.members.length + 1)
    else s.denyChosen r p permit c .partyFull
  | .pair company =>
    if c.rule = .pair ∧ permit.company = company then s.joinPair r p permit c party
    else s.denyChosen r p permit c .partyBusy

/-- Party handling (04 R73). -/
def State.partyHandling (s : State) (r : RoomId) (p : Presentation) (permit : Permit) (c : Chosen) : State :=
  match s.slot r with
  | .party party => s.joinParty r p permit c party
  | _ => s.startParty r p permit c

/-! ## Escort handling (04 R71, R72) -/

/-- A contractor completes a WAITING lead: both are granted, staff first, or the contractor is denied (04 R72). -/
def State.completeLead (s : State) (r : RoomId) (p : Presentation) (permit : Permit) (c : Chosen) (l : Lead) : State :=
  match s.noPlaceFor r 2 with
  | some reason => s.denyChosen r p permit c reason
  | none =>
    let s1 := s.addRecords r [s.staffPresence r l.staff, s.presenterPresence r p permit c (some l.staff) none]
    let s2 := s1.grantNotice p.credential p.issueLevel
    let s3 := s2.leaveOtherParty r p.credential
    let s4 := (s3.openLead r l.staff .entered l.issueLevel).clearWaitingElsewhere r l.staff
    let s5 := s4.release r .entry
    let s6 := s5.issue (s5.verdict (some (r, .entry)) (s5.roomSettings r).entryReader l.staff l.issueLevel none .grant .none)
    s6.issue { s6.contractorVerdict r p permit c .grant .none with
      allowance := some c.allowance, escort := some l.staff }

/-- Whether a staff member's presence record is in a room (04 R72). -/
def State.insideRoom (s : State) (c : Nat) (r : RoomId) : Bool :=
  match s.presenceOf c with
  | some q => q.room == r
  | none => false

/-- A contractor whose grant needs company meets the lead of the room (04 R72, R73). -/
def State.meetLead (s : State) (r : RoomId) (p : Presentation) (permit : Permit) (c : Chosen) (l : Lead) : State :=
  match s.staffOf l.staff with
  | none => s.partyHandling r p permit c
  | some t =>
    if !t.active then s.partyHandling r p permit c
    else match l.kind with
      | .waiting => s.completeLead r p permit c l
      | .entered =>
        if s.insideRoom l.staff r && s.linkedCount l.staff < t.ratio then s.admitContractor r p permit c (some l.staff)
        else s.partyHandling r p permit c

/-- Escort handling of the chosen grant (04 R71 to R73). -/
def State.escortHandling (s : State) (r : RoomId) (p : Presentation) (permit : Permit) (c : Chosen) : State :=
  match c.rule with
  | .none =>
    match s.slot r with
    | .party party =>
      if party.rule = .pair permit.company then s.joinPair r p permit c party else s.admitContractor r p permit c none
    | _ => s.admitContractor r p permit c none
  | _ =>
    match s.slot r with
    | .lead l => s.meetLead r p permit c l
    | _ => s.partyHandling r p permit c

/-! ## The contractor path (04 R65 to R70) -/

/-- The member entry a contractor holds in the party of a room (04 R65). -/
def State.waitingHere (s : State) (r : RoomId) (c : Nat) : Option (Member × Nat) :=
  match s.slot r with
  | .party party => (party.members.find? fun m => m.credential == c).map fun m => (m, party.members.length)
  | _ => none

/-- A contractor who already waits at the room: PENDING again, and nothing changes (04 R65). -/
def State.stillPending (s : State) (r : RoomId) (p : Presentation) (m : Member) (size : Nat) : State :=
  s.issue { s.presenterVerdict (some (r, .entry)) p .pending .none with
    permitNumber := some m.permitNumber, grantIndex := some m.grantIndex, allowance := some m.allowance,
    partySize := some size }

/-- The state of a permit as a reason of denial (04 R66). -/
def PermitState.refusal : PermitState → Option Reason
  | .active => none
  | .suspended => some .suspended
  | .revoked => some .revoked

/-- Whether an issue lock accepts a level: `none`, or the level it is fixed at (01 R15, 04 R67). -/
def IssueLock.mismatch (lock : IssueLock) (level : Nat) : Option Nat :=
  match lock with
  | .fixed f => if level = f then none else some f
  | _ => none

/-- The room mode, the clock and the permit state, in this order (04 R66). -/
def State.contractorBar (s : State) (r : RoomId) (permit : Permit) : Option Reason :=
  if (s.room r).mode = .contractorHold then some .roomHold
  else if s.clock.timeState = .unset then some .timeUnknown
  else permit.state.refusal

/-- The contractor path (04 R65 to R73). -/
def State.decideContractor (s : State) (r : RoomId) (p : Presentation) (permit : Permit) : State :=
  match s.waitingHere r p.credential with
  | some (m, size) => s.stillPending r p m size
  | none =>
    match s.contractorBar r permit with
    | some reason => s.denyContractor r p permit.permitNumber none reason
    | none =>
      match permit.lock.mismatch p.issueLevel with
      | some level =>
        (s.denyContractor r p permit.permitNumber none .issueMismatch).raise (some r) (some p.credential)
          (some (fieldAddress p.reader)) (.issueConflict p.issueLevel level permit.permitNumber)
      | none =>
        match chooseGrant s.settings.part (s.room r).zoneIndex s.clock.minute permit.grants with
        | none =>
          match denialOf s.settings.part (s.room r).zoneIndex s.clock.minute permit.grants with
          | some (index, reason) => s.denyContractor r p permit.permitNumber (some index) reason
          | none => s.denyContractor r p permit.permitNumber none .wrongZone
        | some c =>
          match s.passback r p with
          | none => s.denyContractor r p permit.permitNumber none .alreadyInside
          | some s' => s'.escortHandling r p permit c

/-! ## Entry readers (04 R61) -/

/-- A presentation with a valid credential at the entry reader of an enabled room (04 R61). -/
def State.decideEntry (s : State) (r : RoomId) (p : Presentation) : State :=
  if (s.room r).mode = .locked then s.denyPlain r p .roomLocked
  else if (s.door r).state = .fault ∨ (s.door r).state = .faultHold then s.denyPlain r p .doorFault
  else match s.staffOf p.credential with
    | some t => s.decideStaff r p t
    | none => match s.permitOf p.credential with
      | some permit => s.decideContractor r p permit
      | none => s.denyPlain r p .noPermit

/-! ## Exit readers (04 R76, R77) -/

/-- The outcome and the departure of an exit presentation (04 R76). -/
def State.takeOffRoll (s : State) (r : RoomId) (c : Nat) : State × VerdictOutcome × Option Presence :=
  match s.presenceOf c with
  | none => (s, .exitUnmatched, none)
  | some q =>
    if q.room = r then (s.departOne q .exit, .exit, some q)
    else ((s.departOne q .exitOther).setRollState q.room .uncertain, .exitOther, some q)

/-- An exit verdict with what it carries from the removed record (04 R76). -/
def Verdict.fromRecord (v : Verdict) (record : Option Presence) : Verdict :=
  match record with
  | none => v
  | some q =>
    { v with
      permitNumber := q.contractor.map ContractorPart.permitNumber
      grantIndex := q.contractor.map ContractorPart.grantIndex
      removed := some (q.room, q.entryMinute) }

/-- A presentation with intent PASS at an exit reader (04 R76). -/
def State.decideExit (s : State) (r : RoomId) (p : Presentation) : State :=
  let (s1, outcome, record) := s.takeOffRoll r p.credential
  let s2 := s1.release r .exit
  s2.issue ((s2.presenterVerdict (some (r, .exit)) p outcome .none).fromRecord record)

/-- A check-in on a record: the count to 0, and a deadline, where there is one, set to T + K (04 R77, 06 R111). -/
def ContractorPart.checkedIn (deadline : Nat) (k : ContractorPart) : ContractorPart :=
  { k with
    checkInOverdue := 0
    checkIn := match k.checkIn with
      | .absent => .absent
      | _ => .armed deadline }

/-- A presentation with intent CHECKIN at an exit reader (04 R77). -/
def State.decideCheckIn (s : State) (r : RoomId) (p : Presentation) : State :=
  if s.insideRoom p.credential r then
    let deadline := addMinutes s.clock.minute (s.roomSettings r).checkInInterval
    let s1 := s.changeRecord p.credential (ContractorPart.checkedIn deadline)
    s1.issue (s1.presenterVerdict (some (r, .exit)) p .checkInOk .none)
  else s.issue (s.presenterVerdict (some (r, .exit)) p .checkInUnmatched .none)

/-! ## Screening (04 R58 to R60, 03 R55, R56) -/

/-- Whether repeat suppression ignores a presentation (03 R55). -/
def State.suppressed (s : State) (p : Presentation) : Bool :=
  match look s.lastSeen p.reader with
  | none => false
  | some last =>
    last.credential == p.credential && s.now - last.moment < s.settings.part.repeatSuppression * 500

/-- The last-presentation record of a reader set to a presentation (03 R55). -/
def State.remember (s : State) (p : Presentation) : State :=
  s.withLastSeen (put s.lastSeen p.reader (some { credential := p.credential, moment := s.now }))

/-- The unassigned-reader policy (03 R56). -/
def State.unassignedReader (s : State) (p : Presentation) : State :=
  match s.settings.part.readerPolicy with
  | .forward =>
    s.offerRoutine (.carryUpPresentation s.clock.minute s.clock.second (fieldAddress p.reader) p.credential p.issueLevel
      p.intent)
  | .drop => s

/-- A presentation that repeat suppression let through: the validity of the credential, the position of the reader and the
intent (04 R58 to R60). -/
def State.screen (s : State) (p : Presentation) : State :=
  match s.placeOf (fieldAddress p.reader) with
  | some (r, .entryReader) =>
    if validCredential p.credential then s.decideEntry r p else s.denyPlain r p .badCredential
  | some (r, .exitReader) =>
    if validCredential p.credential then
      match p.intent with
      | .pass => s.decideExit r p
      | .checkIn => s.decideCheckIn r p
    else
      let s1 := s.release r .exit
      s1.issue (s1.presenterVerdict (some (r, .exit)) p .exitUnmatched .badCredential)
  | _ =>
    if validCredential p.credential then s.unassignedReader p
    else s.issue (s.presenterVerdict none p .deny .badCredential)

/-- A presentation taken and decided whole (04 R58). -/
def State.present (s : State) (p : Presentation) : State :=
  if s.suppressed p then s else (s.remember p).screen p

end Sys2Proof.Machine
end

