-- ==== Sys2Proof/Machine/Cells.lean ====
section
/-! DEFINITION. Permit memory in cells: the self-test that retires cells and the store state (11 R178, R179), the condition of
every cell and the taking of cells for a record (01 R5), and the Permit Table as a list in rising credential order (log
34). -/

namespace Sys2Proof.Machine

/-! ## The self-test (11 R178) -/

/-- The test of one half, over its cells in rising order: the first two failing cells are retired, and at a third the whole
half is retired and the test of the half stops (11 R178). -/
def testHalf (failing : List Nat) : List Nat → List Nat → HalfMap
  | [], found => { cells := found, whole := false }
  | c :: rest, found =>
    if failing.contains c then
      if found.length < 2 then testHalf failing rest (found ++ [c]) else { cells := [], whole := true }
    else testHalf failing rest found

/-- Half a map has a retired cell. -/
def HalfMap.anyRetired (h : HalfMap) : Bool := h.whole || !h.cells.isEmpty

/-- The half retired whole; its single retirements become part of that (11 R178). -/
def HalfMap.allRetired : HalfMap := { cells := [], whole := true }

/-- The condition applied when both halves have been tested: beside a half retired whole, a half with any retired cell is
retired whole as well (11 R178). -/
def pairHalves (low high : HalfMap) : RetiredMap :=
  if low.whole && high.anyRetired then { low := HalfMap.allRetired, high := HalfMap.allRetired }
  else if high.whole && low.anyRetired then { low := HalfMap.allRetired, high := HalfMap.allRetired }
  else { low := low, high := high }

/-- The self-test of both halves (11 R178). -/
def selfTest (failing : List Nat) : RetiredMap :=
  pairHalves (testHalf failing (List.range' 0 Config.halfCells) [])
    (testHalf failing (List.range' Config.halfCells Config.halfCells) [])

/-- The cells half a map retires, counted. -/
def HalfMap.count (h : HalfMap) : Nat := if h.whole then Config.halfCells else h.cells.length

/-- The retired count (11 R178). -/
def RetiredMap.count (m : RetiredMap) : Nat := m.low.count + m.high.count

/-- The store state that follows from the map (11 R179). -/
def RetiredMap.store (m : RetiredMap) : StoreState :=
  if m.low.whole && m.high.whole then .failed
  else if m.low.whole || m.high.whole then .half
  else if m.low.cells.isEmpty && m.high.cells.isEmpty then .whole
  else .reduced

/-- Whether the map retires a cell. -/
def RetiredMap.retires (m : RetiredMap) (cell : Nat) : Bool :=
  if cell < Config.halfCells then m.low.whole || m.low.cells.contains cell
  else m.high.whole || m.high.cells.contains cell

/-! ## Cells (01 R5) -/

/-- The cells a record uses: its header cell and its grant cells. -/
def Permit.cells (p : Permit) : List Nat := p.headerCell :: p.grantCells

/-- The cells used by permit records. -/
def usedCells (permits : List Permit) : List Nat := permits.flatMap Permit.cells

/-- The condition of a cell (01 section 1.4). -/
inductive CellCondition where
  | used
  | free
  | retired
  deriving DecidableEq, Repr

/-- The condition of a cell of permit memory (01 R5). -/
def cellCondition (m : RetiredMap) (permits : List Permit) (cell : Nat) : CellCondition :=
  if m.retires cell then .retired else if (usedCells permits).contains cell then .used else .free

/-- The free cells, lowest first (01 R5). -/
def freeCells (m : RetiredMap) (permits : List Permit) : List Nat :=
  let used := usedCells permits
  (List.range Config.permitCells).filter fun c => !m.retires c && !used.contains c

/-- The number of free cells. -/
def freeCount (m : RetiredMap) (permits : List Permit) : Nat := (freeCells m permits).length

/-- The number of cells a record with some grants needs (01 R5). -/
def cellsNeeded (grants : List Grant) : Nat := grants.length + 1

/-- A record given the lowest free cells: the header takes the lowest, the grants the next in index order (01 R5). -/
def Permit.placed (p : Permit) (free : List Nat) : Permit :=
  { p with headerCell := free.headD 0, grantCells := (free.drop 1).take p.grants.length }

/-! ## The Permit Table and the Escort Roster as lists in rising credential order -/

/-- A permit record put into its place in credential order. -/
def insertPermit (p : Permit) : List Permit → List Permit
  | [] => [p]
  | q :: rest => if p.credential ≤ q.credential then p :: q :: rest else q :: insertPermit p rest

/-- The table without a credential's record. -/
def removePermit (c : Nat) (permits : List Permit) : List Permit := permits.filter fun p => p.credential != c

/-- A staff record put into its place in credential order. -/
def insertStaff (t : Staff) : List Staff → List Staff
  | [] => [t]
  | u :: rest => if t.credential ≤ u.credential then t :: u :: rest else u :: insertStaff t rest

/-- The roster without a credential's record. -/
def removeStaff (c : Nat) (roster : List Staff) : List Staff := roster.filter fun t => t.credential != c

/-- The number of free cells of the part as it stands. -/
def State.freeNow (s : State) : Nat := freeCount s.retired s.permits

end Sys2Proof.Machine
end

