-- ==== Sys2Proof/Machine/Requests.lean ====
section
/-! DEFINITION. The Management Executor (09 section 9.5): taking the head of the command queue, executing it whole and putting
one answer into the answer queue. Every request row of the table is one call of `State.executeRequest`. -/

namespace Sys2Proof.Machine

/-- What the execution of a request leaves: the state, and its answer unless the request is held on (a SAVE SETTINGS whose
write begins, 09 R164). -/
structure Executed where
  state : State
  answer : Option (Status × AnswerData)
  deriving Repr

/-- A request answered with a status and data. -/
def answered (s : State) (status : Status) (data : AnswerData) : Executed := { state := s, answer := some (status, data) }

/-- A request refused for its field at a position, with no change (09 R162, 12 R185). -/
def badValue (s : State) (position : Nat) : Executed := answered s .badValue (.badField position)

/-- The request names of the catalogue, by their numbers (12 R185, 09 section 9.6). -/
def nameLoadPermit : Nat := 1
def nameDropPermit : Nat := 2
def nameSuspendPermit : Nat := 3
def nameResumePermit : Nat := 4
def nameRevokePermit : Nat := 5
def nameReadPermit : Nat := 6
def namePurgePermits : Nat := 7
def nameLoadEscort : Nat := 8
def nameDropEscort : Nat := 9
def nameReadEscort : Nat := 10
def nameClearTables : Nat := 11
def nameSetRoom : Nat := 12
def nameSetRoomMode : Nat := 13
def nameReadRoom : Nat := 14
def nameReconcileRoom : Nat := 15
def nameSetProgram : Nat := 16
def nameCancelRelease : Nat := 17
def nameResumeRoom : Nat := 18
def nameRemoteRelease : Nat := 19
def nameSetStation : Nat := 20
def nameSetPart : Nat := 21
def nameCarry : Nat := 22
def nameReadStatus : Nat := 23
def nameSaveSettings : Nat := 24
def nameRestart : Nat := 25
def nameAssignAddress : Nat := 26

/-- Whether a name is one of the catalogue's. -/
def knownName (n : Nat) : Bool := 1 ≤ n && n ≤ 26

/-- The executor may take a request: the part is RUNNING, the executor holds none and no RESTART has been answered, and the
answer queue has a free place (09 R162, R163, R168). -/
def State.mayExecute (s : State) : Bool :=
  s.isRunning && s.executor == .free && s.reports.answers.length < Config.answerPlaces

/-- The head of the command queue where the executor may take it, and the state with it gone from the queue. -/
def State.takeRequest (s : State) : Option (Request × State) :=
  if s.mayExecute then
    match s.trunk.commands with
    | r :: rest => some (r, s.withTrunk { s.trunk with commands := rest })
    | [] => none
  else none

/-- One request executed whole: the head of the command queue, where its name passes the row's test, is taken, the rule is
applied, and the answer enters the answer queue. Where the executor may not take it the row does not come about and nothing
changes (log 7, log 8). -/
def State.executeRequest (s : State) (isRow : Nat → Bool) (rule : Request → State → Executed) : State :=
  match s.takeRequest with
  | some (r, s1) =>
    if isRow r.name then
      let e := rule r s1
      match e.answer with
      | some (status, data) => e.state.answer r status data
      | none => e.state
    else s
  | none => s

/-- A request of one name executed. -/
def State.executeNamed (s : State) (name : Nat) (rule : Request → State → Executed) : State :=
  s.executeRequest (fun n => n == name) rule

/-- UNKNOWN_REQUEST: a name the part does not know is answered BAD_VALUE naming the request-name field, with the name as
received (09 R162). -/
def execUnknownRequest (s : State) : Host.Outcome State Fault Refusal :=
  .next (s.executeRequest (fun n => !knownName n) fun r s => answered s .badValue (.unknownName r.name))

end Sys2Proof.Machine
end

