-- ==== Sys2Proof/Machine/Field.lean ====
section
/-! DEFINITION. The Field Port (chapter 8): the rotation, visits, the judging of frames, replies, missed visits and carried
traffic, with the requests SET STATION and CARRY. -/

namespace Sys2Proof.Machine

/-! ## The rotation (08 R145) -/

/-- The next station: the lowest enabled address above the last one visited, else the lowest enabled of all (08 R145). -/
def nextStation (stations : Vector StationSettings 16) (last : Option StationId) : Option StationId :=
  let enabled := allStations.filter fun a => (look stations a).enabled
  match last with
  | some l => match enabled.find? fun a => l.val < a.val with
    | some a => some a
    | none => enabled.head?
  | none => enabled.head?

/-- The Field Port makes its choice against the enabled fields as they stand (08 R145). -/
def State.chooseStation (s : State) : State :=
  s.withField { s.field with chosen := nextStation s.settings.stations s.field.lastVisited }

/-- The outstanding visit ends and the next station is chosen (08 R145). -/
def State.endVisit (s : State) : State := (s.withField { s.field with visit := none }).chooseStation

/-! ## The carry-down queue (08 R151, R152) -/

/-- The oldest item for a station marked as riding (08 R146). -/
def markRiding (a : StationId) : List CarryItem → List CarryItem
  | [] => []
  | i :: rest => if i.station = a then { i with riding := true } :: rest else i :: markRiding a rest

/-- The payload that rides on a visit to a station: that of its oldest item, or none (08 R146). -/
def ridingPayload (a : StationId) (items : List CarryItem) : List Byte :=
  match items.find? fun i => i.station == a with
  | some i => i.payload
  | none => []

/-- The CARRY_FAILED item of a carry item (08 R152, 10 R175). -/
def State.carryFailed (s : State) (i : CarryItem) (cause : CarryCause) : State :=
  s.offerRoutine
    (.carryFailed s.clock.minute s.clock.second (fieldAddress i.station) i.tag i.payload.length cause)

/-- The item that rode on the visit leaves the queue as delivered (08 R148). -/
def State.deliverCarry (s : State) : State :=
  s.withField { s.field with carryDown := s.field.carryDown.filter fun i => !i.riding }

/-- The item that rode on the visit leaves the queue with CARRY_FAILED (08 R150, R152). -/
def State.failRiding (s : State) (cause : CarryCause) : State :=
  match s.field.carryDown.find? CarryItem.riding with
  | some i => s.deliverCarry.carryFailed i cause
  | none => s

/-- Every item of a disabled station leaves the queue with CARRY_FAILED, in queue order (08 R143, R152). -/
def State.failStation (s : State) (a : StationId) : State :=
  let gone := s.field.carryDown.filter fun i => i.station == a
  let s1 := s.withField { s.field with carryDown := s.field.carryDown.filter fun i => !(i.station == a) }
  gone.foldl (fun s i => s.carryFailed i .stationDisabled) s1

/-! ## Sending a visit (08 R146) -/

/-- The image byte for an address by its position (08 R146, 12 R187). -/
def State.visitImage (s : State) (address : Nat) : Nat :=
  match s.placeOf address with
  | some (r, .lockDriver) => outputByte (s.door r).image
  | some (r, .entryReader) => (s.entryImage r).code
  | some (r, .exitReader) => (s.exitImage r).code
  | none => Indication.idle.code

/-- A visit is sent to a station: its image and its carry item, at the speed and with the timeout in force (08 R144, R146). -/
def State.sendVisit (s : State) (a : StationId) : State :=
  let frame := visitFrame (fieldAddress a) (s.visitImage (fieldAddress a)) (ridingPayload a s.field.carryDown)
  s.withField
    { visit := some { station := a, frame := frame.bytes, speed := s.settings.part.lineSpeed,
                      timeout := s.startTimer s.settings.part.replyTimeout }
      chosen := none
      lastVisited := some a
      carryDown := markRiding a s.field.carryDown }

/-- VISIT_SEND: `moment` is that of the last stop bit. A visit is sent only while none is outstanding and a station is chosen
(08 R145, R146). -/
def execVisitSend (moment : Nat) (s : State) : Host.Outcome State Fault Refusal :=
  .next
    (if s.isRunning && s.field.visit.isNone then
      match s.field.chosen with
      | some a => (s.advance moment).sendVisit a
      | none => s
    else s)

/-! ## A missed or bad reply (08 R150) -/

/-- The room an alarm about a station names: where the address has a position in an enabled room (08 R148, R150). -/
def State.roomOfStation (s : State) (a : StationId) : Option RoomId := (s.placeOf (fieldAddress a)).map Prod.fst

/-- A notice to Door Control where the address is the lock driver of an enabled room (08 R148, R150). -/
def State.tellDoor (s : State) (a : StationId) (notice : State → RoomId → State) : State :=
  match s.driverRoom (fieldAddress a) with
  | some r => notice s r
  | none => s

/-- The station becomes OFFLINE: the alarm and then the notice (08 R150). -/
def State.stationLost (s : State) (a : StationId) (before : OnlineState) (cause : CarryCause) : State :=
  (s.raise (s.roomOfStation a) none (some (fieldAddress a))
    (.stationOffline (s.stationSettings a).kind before cause)).tellDoor a State.driverOffline

/-- The missed count of a station goes up, and at 3 from 2 the station becomes OFFLINE (08 R150). -/
def State.countMiss (s : State) (a : StationId) (cause : CarryCause) : State :=
  let t := s.station a
  if t.missed + 1 < Config.missesToOffline then s.setStation a { t with missed := t.missed + 1 }
  else if t.missed + 1 = Config.missesToOffline then
    (s.setStation a { online := .offline, missed := Config.missesToOffline }).stationLost a t.online cause
  else s

/-- The visit to a station ends as a missed or a bad reply (08 R150). -/
def State.visitFailed (s : State) (a : StationId) (cause : CarryCause) : State :=
  ((s.countMiss a cause).failRiding cause).endVisit

/-- No reply has begun within the timeout of a visit: it ends at the timeout as a missed reply (08 R147, R150). -/
def State.replyMissed (s : State) (v : Visit) : State := (s.advance v.timeout.ends).visitFailed v.station .noReply

/-- VISIT_TIMEOUT (08 R147, R150). -/
def execVisitTimeout (s : State) : Host.Outcome State Fault Refusal :=
  .next
    (if s.isRunning then
      match s.field.visit with
      | some v => s.replyMissed v
      | none => s
    else s)

/-- FIELD_GAP_ABANDON: a frame that had begun is abandoned, and the visit ends as a bad reply (08 R147). -/
def execFieldGapAbandon (moment : Nat) (bytes : List Byte) (s : State) : Host.Outcome State Fault Refusal :=
  .next
    (if s.isRunning then
      match s.field.visit, receive bytes with
      | some v, .incomplete => (s.advance moment).visitFailed v.station .badReply
      | _, _ => s
    else s)

/-! ## A good reply (08 R148, R149, R153) -/

/-- The station becomes ONLINE with count 0; one that was OFFLINE gives STATION_ONLINE and then the notice (08 R148). -/
def State.stationAnswered (s : State) (a : StationId) : State :=
  let s1 := s.setStation a { online := .online, missed := 0 }
  match (s.station a).online with
  | .offline =>
    (s1.raise (s1.roomOfStation a) none (some (fieldAddress a))
      (.stationOnline (s1.stationSettings a).kind Config.missesToOffline)).tellDoor a State.driverOnline
  | _ => s1

/-- The body of a reply is handed on (08 R149). -/
def State.takeBody (s : State) (a : StationId) : ReplyBody → State
  | .nothing => s
  | .presentation credential level intent =>
    s.present { reader := a, credential := credential, issueLevel := level, intent := intent }
  | .events list => s.tellDoor a fun s r => s.driverEvents r list

/-- A carry-up payload becomes a CARRY_UP item (08 R153). -/
def State.takeCarryUp (s : State) (a : StationId) : Option (List Byte) → State
  | some payload => s.offerRoutine (.carryUpPayload s.clock.minute s.clock.second (fieldAddress a) payload)
  | none => s

/-- A good reply is taken (08 R148). -/
def State.replyTaken (s : State) (a : StationId) (reply : FieldReply) : State :=
  ((((s.stationAnswered a).deliverCarry).takeBody a reply.body).takeCarryUp a reply.carryUp).endVisit

/-! ## Judging a frame (08 R147) -/

/-- What a frame received during a visit does to it (08 R147). -/
inductive Judgement where
  /-- not a frame received whole or abandoned by its length: nothing has come about -/
  | unfinished
  | ignored
  | bad
  | good (reply : FieldReply)
  deriving DecidableEq, Repr

/-- The judgement of the bytes received during a visit to a station of a kind (08 R147, R149). -/
def judgeReply (a : StationId) (kind : StationKind) (bytes : List Byte) : Judgement :=
  match receive bytes with
  | .nothing => .unfinished
  | .incomplete => .unfinished
  | .tooLong => .bad
  | .badCrc => .bad
  | .whole f =>
    if f.destination ≠ 0 then .ignored
    else if f.source ≠ fieldAddress a ∨ f.kind ≠ kindReply then .bad
    else match readReply f.payload with
      | some reply => if bodyFits kind reply.body then .good reply else .bad
      | none => .bad

/-- Whether a visit's reply timeout has expired by the timebase as it stands (08 R147). -/
def State.visitExpired (s : State) (v : Visit) : Bool := v.timeout.ends ≤ s.now

/-- An ignored frame has ended: the wait goes on, unless the timeout expired while the frame was being received, in which case
the visit ends now as a missed reply (08 R147; DEDUCED, log 48). -/
def State.frameIgnored (s : State) (v : Visit) : State :=
  if s.visitExpired v then s.visitFailed v.station .noReply else s

/-- A frame that began within the timeout of a visit ends at a moment, and does what its judgement says (08 R147). -/
def State.frameEnded (s : State) (v : Visit) (moment : Nat) : Judgement → State
  | .unfinished => s
  | .ignored => (s.advance moment).frameIgnored v
  | .bad => (s.advance moment).visitFailed v.station .badReply
  | .good reply => (s.advance moment).replyTaken v.station reply

/-- FIELD_FRAME: a frame received during a visit is judged; one received with no visit outstanding is discarded (08 R147). A frame
whose start byte comes after the end of the reply timeout arrives when the visit has been missed. A start byte at that very moment
may be taken first, and is so where this command comes before VISIT_TIMEOUT (08 R147; DEDUCED, log 48). The visit a frame is judged
against is the one that is outstanding then, also where the frame is the late reply of a station that was disabled during an earlier
visit (08 R143; DESIGN CHOICE, log 43). -/
def execFieldFrame (moment : Nat) (bytes : List Byte) (began : Nat) (s : State) : Host.Outcome State Fault Refusal :=
  .next
    (if s.isRunning then
      match s.field.visit with
      | none => s
      | some v =>
        let judged := judgeReply v.station (s.stationSettings v.station).kind bytes
        if judged = .unfinished ∨ began ≤ v.timeout.ends then s.frameEnded v moment judged else s.replyMissed v
    else s)

/-! ## SET STATION (08 R143, R144) -/

/-- Whether a request's speed differs from the one in force; KEEP does not (08 R144). -/
def State.speedDiffers (s : State) (speed : Option LineSpeed) : Bool :=
  match speed with
  | some x => x != s.settings.part.lineSpeed
  | none => false

/-- The kind, the enabled choice and the speed written (08 R143). -/
def State.writeStation (s : State) (a : StationId) (new : StationSettings) (speed : Option LineSpeed) : State :=
  s.withSettings { s.settings with
    stations := put s.settings.stations a new
    part := { s.settings.part with lineSpeed := speed.getD s.settings.part.lineSpeed } }

/-- A station disabled: its items leave, a visit to it ends at once, and a choice of it is made again (08 R143, R145, log
12). -/
def State.disableStation (s : State) (a : StationId) : State :=
  let s1 := s.failStation a
  match s1.field.visit with
  | some v => if v.station = a then s1.endVisit else s1
  | none => if s1.field.chosen = some a then s1.chooseStation else s1

/-- A station enabled: a Field Port that waits makes its next choice (08 R145). -/
def State.enableStation (s : State) : State :=
  if s.field.visit.isNone && s.field.chosen.isNone then s.chooseStation else s

/-- SET STATION (08 R143). -/
def setStationRule (q : Request) (s : State) : Executed :=
  match stationFields q.body with
  | .error p => badValue s p
  | .ok (a, new, speed) =>
    if s.speedDiffers speed && 0 < s.partiesPending then answered s .inUse (.partiesPending s.partiesPending)
    else
      let s1 := s.writeStation a new speed
      let s2 := if new.enabled then s1.enableStation else s1.disableStation a
      answered s2 .done (.stationSet (s2.station a).online (s2.station a).missed)

/-- SET_STATION (08 R143). -/
def execSetStation (s : State) : Host.Outcome State Fault Refusal := .next (s.executeNamed nameSetStation setStationRule)

/-! ## CARRY (09 R166, 08 R151) -/

/-- The items in the carry-down queue for a station, the one that rides on its outstanding visit included. The NO_ROOM answer of
CARRY gives this number as the items waiting, where 09 R166 does not say whether a riding item waits (DESIGN CHOICE, log 50). -/
def State.carryItemsFor (s : State) (a : StationId) : Nat := s.field.carryDown.countP fun i => i.station == a

/-- CARRY (09 R166). -/
def carryRule (q : Request) (s : State) : Executed :=
  match carryFields q.body with
  | .error p => badValue s p
  | .ok (a, payload) =>
    if !(s.stationSettings a).enabled then answered s .notAllowed .nothing
    else if Config.carryPlaces ≤ s.field.carryDown.length then answered s .noRoom (.carryFull (s.carryItemsFor a))
    else
      let item : CarryItem := { station := a, tag := q.tag, payload := payload, riding := false }
      let s1 := s.withField { s.field with carryDown := s.field.carryDown ++ [item] }
      answered s1 .done (.carryQueued s1.field.carryDown.length (s1.carryItemsFor a))

/-- CARRY (09 R166). -/
def execCarry (s : State) : Host.Outcome State Fault Refusal := .next (s.executeNamed nameCarry carryRule)

end Sys2Proof.Machine
end

