-- ==== Sys2Proof/Machine/Part.lean ====
section
/-! DEFINITION. The meanings of the requests on the part as a whole (09 section 9.6): SET PART, READ STATUS, SAVE SETTINGS with
the end of its write, RESTART and ASSIGN ADDRESS. -/

namespace Sys2Proof.Machine

/-! ## SET PART (09 R165) -/

/-- Which of the nine settings differ, in the table's order (09 R165). -/
def PartSettings.changes (old new : PartSettings) : List Bool :=
  [old.epochWeekday != new.epochWeekday, old.groupMode != new.groupMode, old.shift != new.shift,
   old.repeatSuppression != new.repeatSuppression, old.readerPolicy != new.readerPolicy,
   old.escortWindow != new.escortWindow, old.lineSpeed != new.lineSpeed, old.replyTimeout != new.replyTimeout,
   old.trunkSilence != new.trunkSilence]

/-- Whether the group mode or the shift differs (03 R42). -/
def PartSettings.zonesDiffer (old new : PartSettings) : Bool := old.groupMode != new.groupMode || old.shift != new.shift

/-- The part settings replaced whole, the zone indices computed anew where they depend on a change (09 R165, 03 R42). -/
def State.applyPart (s : State) (new : PartSettings) : State :=
  let s1 := s.withSettings { s.settings with part := new }
  if s.settings.part.zonesDiffer new then s1.recomputeZones else s1

/-- The zone index of each room (09 R165). -/
def State.zoneIndices (s : State) : List Nat := allRooms.map fun r => (s.room r).zoneIndex

/-- SET PART (09 R165). -/
def setPartRule (q : Request) (s : State) : Executed :=
  match partFields q.body with
  | .error p => badValue s p
  | .ok new =>
    let old := s.settings.part
    if old.lineSpeed ≠ new.lineSpeed ∧ 0 < s.partiesPending then answered s .inUse (.partiesPending s.partiesPending)
    else
      let s1 := s.applyPart new
      answered s1 .done
        (.partSet (old.changes new) (if old.zonesDiffer new then some s1.zoneIndices else none))

/-- SET_PART (09 R165). -/
def execSetPart (s : State) : Host.Outcome State Fault Refusal := .next (s.executeNamed nameSetPart setPartRule)

/-! ## READ STATUS (09 R167) -/

def State.roomStatus (s : State) (r : RoomId) : RoomStatus :=
  { enabled := (s.roomSettings r).enabled, mode := (s.room r).mode, rollState := (s.room r).rollState,
    records := s.roomCount r, door := (s.door r).state, slot := (s.slot r).picture }

def State.stationStatus (s : State) (a : StationId) : StationStatus :=
  { kind := (s.stationSettings a).kind, enabled := (s.stationSettings a).enabled, online := (s.station a).online,
    missed := (s.station a).missed }

/-- The picture of the part (09 R167). -/
def State.statusPicture (s : State) : StatusPicture :=
  { serial := s.serial
    address := s.trunk.address
    memoryPresent := s.loadResult.memoryPresent
    imageValid := s.loadResult.imageValid
    store := s.retired.store
    cellsUsed := (usedCells s.permits).length
    cellsFree := s.freeNow
    cellsRetired := s.retired.count
    permits := s.permits.length
    staff := s.roster.length
    presences := s.roll.length
    rooms := allRooms.map s.roomStatus
    stations := allStations.map s.stationStatus
    commandItems := s.trunk.commands.length
    answerItems := s.reports.answers.length
    alarmItems := s.reports.alarms.length
    routineItems := s.reports.routine.length
    carryItems := s.field.carryDown.length
    overflow := s.reports.overflow
    discards := s.reports.discards
    refusals := s.trunk.refusals
    link := s.trunk.link
    minute := s.clock.minute
    second := s.clock.second
    timeState := s.clock.timeState
    sinceTime := s.clock.sinceTime
    part := s.settings.part }

/-- READ STATUS: the picture, and then the alarm-overflow flag is cleared (09 R167, 10 R172). -/
def readStatusRule (q : Request) (s : State) : Executed :=
  match noFields q.body with
  | .error p => badValue s p
  | .ok _ => answered (s.withReports { s.reports with overflow := false }) .done (.status s.statusPicture)

/-- READ_STATUS (09 R167). -/
def execReadStatus (s : State) : Host.Outcome State Fault Refusal := .next (s.executeNamed nameReadStatus readStatusRule)

/-! ## SAVE SETTINGS (09 R164, 11 R182, R183) -/

/-- SAVE SETTINGS: without an answering memory it is refused at the probe; otherwise the store takes its copy of the image and
the write begins (11 R182). -/
def saveSettingsRule (answers : Bool) (q : Request) (s : State) : Executed :=
  match noFields q.body with
  | .error p => badValue s p
  | .ok _ =>
    if answers then
      { state := s.withExecutor (.saving q.tag (imageOf s.settings s.trunk.address)), answer := none }
    else answered s .noStore (.saveFailed .probe)

/-- SAVE_SETTINGS (09 R164). -/
def execSaveSettings (answers : Bool) (s : State) : Host.Outcome State Fault Refusal :=
  .next (s.executeNamed nameSaveSettings (saveSettingsRule answers))

/-- What a write leaves in the memory, and its answer (11 R182, R183; log 10, log 30). Where the read-back did not show that the
memory holds the copy, what it holds is the outside's to say, and the next load judges it (11 R180). -/
def writeEnd (memory : ConfigMemory) (copy : SettingsImage) : WriteOutcome → ConfigMemory × Status × AnswerData
  | .complete => ({ signature := true, image := some copy }, .done, .saved Config.imageBytes)
  | .clearFailed cleared => ({ memory with signature := memory.signature && !cleared }, .noStore, .saveFailed .clear)
  | .imageFailed => ({ signature := false, image := none }, .noStore, .saveFailed .image)
  | .signatureFailed => ({ signature := false, image := some copy }, .noStore, .saveFailed .signature)
  | .readBackStopped found => ({ signature := true, image := some found }, .noStore, .saveFailed .verify)
  | .differsCleared => ({ signature := false, image := none }, .noStore, .saveFailed .verify)
  | .differsKept found => ({ signature := true, image := some found }, .noStore, .saveFailed .verify)

/-- SAVE_WRITE_END: the write in flight ends, its answer enters the answer queue and the executor is free (09 R164, 11 R182,
R183). -/
def execSaveWriteEnd (moment : Nat) (outcome : WriteOutcome) (s : State) : Host.Outcome State Fault Refusal :=
  .next
    (if s.isRunning then
      match s.executor with
      | .saving tag copy =>
        let (memory, status, data) := writeEnd s.memory copy outcome
        (((s.advance moment).withMemory memory).withExecutor .free).answer
          { tag := tag, name := nameSaveSettings, body := [] } status data
      | _ => s
    else s)

/-! ## RESTART and ASSIGN ADDRESS (09 R168, R155) -/

/-- RESTART: answered DONE, after which the executor takes no further request (09 R168). -/
def restartRule (q : Request) (s : State) : Executed :=
  match noFields q.body with
  | .error p => badValue s p
  | .ok _ => answered (s.withExecutor .restarting) .done .nothing

/-- RESTART (09 R168). -/
def execRestart (s : State) : Host.Outcome State Fault Refusal := .next (s.executeNamed nameRestart restartRule)

/-- ASSIGN ADDRESS (09 R155, log 36). -/
def assignAddressRule (q : Request) (s : State) : Executed :=
  match assignFields q.body with
  | .error p => badValue s p
  | .ok (_, address) =>
    if s.trunk.address ≠ Config.unassigned then answered s .notAllowed (.addressHeld s.trunk.address)
    else answered (s.withTrunk { s.trunk with address := address }) .done (.addressSet address s.serial)

/-- ASSIGN_ADDRESS (09 R155). -/
def execAssignAddress (s : State) : Host.Outcome State Fault Refusal :=
  .next (s.executeNamed nameAssignAddress assignAddressRule)

end Sys2Proof.Machine
end

