-- ==== Sys2Proof/Machine/Releases.lean ====
section
/-! DEFINITION. The meanings of the requests on Door Control and of its two timer expiries: SET PROGRAM, CANCEL RELEASE, RESUME
ROOM, REMOTE RELEASE, the held timer and the WAIT timer (chapter 7). -/

namespace Sys2Proof.Machine

/-! ## SET PROGRAM (07 R128) -/

/-- The rooms whose entry or exit program is one of a number (07 R128). -/
def State.roomsOfProgram (s : State) (n : ProgramId) : Nat :=
  allRooms.countP fun r => (s.roomSettings r).entryProgram == n || (s.roomSettings r).exitProgram == n

/-- SET PROGRAM (07 R128). -/
def setProgramRule (q : Request) (s : State) : Executed :=
  match programFields q.body with
  | .error p => badValue s p
  | .ok (n, steps) =>
    answered (s.withSettings { s.settings with programs := put s.settings.programs n steps }) .done
      (.programSet steps.length (s.roomsOfProgram n))

/-- SET_PROGRAM (07 R128). -/
def execSetProgram (s : State) : Host.Outcome State Fault Refusal := .next (s.executeNamed nameSetProgram setProgramRule)

/-! ## CANCEL RELEASE (07 R133) -/

/-- CANCEL RELEASE (07 R133). -/
def cancelReleaseRule (q : Request) (s : State) : Executed :=
  match roomField q.body with
  | .error p => badValue s p
  | .ok r =>
    if !(s.roomSettings r).enabled then answered s .notAllowed .nothing
    else answered (s.cancelProgram r) .done (.cancelled ((s.door r).program.map fun p => (p.kind, p.number)))

/-- CANCEL_RELEASE (07 R133). -/
def execCancelRelease (s : State) : Host.Outcome State Fault Refusal :=
  .next (s.executeNamed nameCancelRelease cancelReleaseRule)

/-! ## RESUME ROOM (07 R137) -/

/-- RESUME ROOM (07 R137). -/
def resumeRoomRule (q : Request) (s : State) : Executed :=
  match roomField q.body with
  | .error p => badValue s p
  | .ok r =>
    if !(s.roomSettings r).enabled then answered s .notAllowed .nothing
    else if (s.door r).state ≠ .faultHold ∨ s.driverIsOffline r then
      answered s .notAllowed (.doorIs (s.door r).state)
    else answered (s.secureAgain r) .done (.doorIs .faultHold)

/-- RESUME_ROOM (07 R137). -/
def execResumeRoom (s : State) : Host.Outcome State Fault Refusal := .next (s.executeNamed nameResumeRoom resumeRoomRule)

/-! ## REMOTE RELEASE (07 R140) -/

/-- Whether a release of kind ENTRY is refused: LOCKED, FAULT or FAULT_HOLD (07 R140). -/
def State.entryBarred (s : State) (r : RoomId) : Bool :=
  (s.room r).mode == .locked || (s.door r).state == .fault || (s.door r).state == .faultHold

/-- REMOTE RELEASE (07 R140). -/
def remoteReleaseRule (q : Request) (s : State) : Executed :=
  match releaseFields q.body with
  | .error p => badValue s p
  | .ok (r, kind) =>
    if !(s.roomSettings r).enabled then answered s .notAllowed .nothing
    else if kind = .entry ∧ s.entryBarred r then
      answered s .notAllowed (.releaseRefused (s.room r).mode (s.door r).state)
    else answered (s.release r kind) .done (.release (s.selectedProgram r kind) (s.releaseResult r kind))

/-- REMOTE_RELEASE (07 R140). -/
def execRemoteRelease (s : State) : Host.Outcome State Fault Refusal :=
  .next (s.executeNamed nameRemoteRelease remoteReleaseRule)

/-! ## The two timers of a door (07 R127, R129) -/

/-- HELD_TIMER_EXPIRY: the door becomes HELD and DOOR_HELD is raised. The held timer runs only while the door is OPEN; where
it does not run there is no expiry (07 R127). -/
def execHeldTimerExpiry (r : RoomId) (s : State) : Host.Outcome State Fault Refusal :=
  .next
    (if s.isRunning && (s.door r).state == .opened then
      match (s.door r).heldTimer with
      | some c => (s.advance c.ends).heldExpired r c
      | none => s
    else s)

/-- WAIT_EXPIRY: the steps after the running WAIT are taken (07 R129). -/
def execWaitExpiry (r : RoomId) (s : State) : Host.Outcome State Fault Refusal :=
  .next
    (if s.isRunning then
      match (s.door r).waitTimer with
      | some c =>
        let s1 := s.advance c.ends
        s1.setDoor r ((s1.door r).afterWait s1.now (s1.roomSettings r))
      | none => s
    else s)

end Sys2Proof.Machine
end

