-- ==== Sys2Proof/Machine/Rooms.lean ====
section
/-! DEFINITION. The meanings of the requests on the Room Table and the Occupancy Roll: SET ROOM, SET ROOM MODE, READ ROOM and
RECONCILE ROOM (chapters 3 and 6). -/

namespace Sys2Proof.Machine

/-! ## SET ROOM (03 R46 to R48) -/

/-- Whether two settings of a room differ in an identity setting (03 R46). -/
def RoomSettings.identityDiffers (old new : RoomSettings) : Bool :=
  old.enabled != new.enabled || old.roomCode != new.roomCode || old.entryReader != new.entryReader
    || old.exitReader != new.exitReader || old.lockDriver != new.lockDriver

/-- Whether a room has a presence record, a party or a lead slot (03 R46). -/
def State.roomOccupied (s : State) (r : RoomId) : Bool := 0 < s.roomCount r || s.slot r != .empty

/-- The room's settings replaced whole, and its zone index computed from them (03 R42, R46). -/
def State.storeRoom (s : State) (r : RoomId) (new : RoomSettings) : State :=
  let s1 := s.withSettings { s.settings with rooms := put s.settings.rooms r new }
  s1.setRoom r { s1.room r with zoneIndex := zoneIndexOf s1.settings.part new.roomCode }

/-- The effects of a change of the enabled choice or of the lock driver (03 R48, 07 R139). -/
def State.takeIdentity (s : State) (r : RoomId) (old new : RoomSettings) : State :=
  if new.enabled then
    if !old.enabled then
      (s.setRoom r { s.room r with rollState := .uncertain, entryOverlay := none, exitOverlay := none }).freshStart r
    else if old.lockDriver != new.lockDriver then s.freshStart r
    else s
  else if old.enabled then
    (s.setRoom r { s.room r with mode := .normal, entryOverlay := none, exitOverlay := none }).closeDown r
  else s

/-- A changed check-in interval handed to the roll: a change to 0 and a change from 0 evaluate the lone condition, and a change
between values above 0 leaves every deadline (06 R112). -/
def State.takeInterval (s : State) (r : RoomId) (old new : RoomSettings) : State :=
  if old.checkInInterval ≠ new.checkInInterval ∧ (old.checkInInterval = 0 ∨ new.checkInInterval = 0) then s.evaluateLone r
  else s

/-- The data of a refusal by uniqueness: the field by its position in the request, which carries the room first and the
addresses fourth to sixth, and the place of the other room that holds the address (03 R45, 12 R185, log 27). -/
def AddressFault.data (f : AddressFault) : AnswerData :=
  match f.holder with
  | some (room, place) => .addressTaken (f.field + 3) room place
  | none => .addressRefused (f.field + 3)

/-- SET ROOM that passed its three stages (03 R47, R48). -/
def State.applyRoom (s : State) (r : RoomId) (new : RoomSettings) : State :=
  let old := s.roomSettings r
  ((s.storeRoom r new).takeIdentity r old new).takeInterval r old new

/-- SET ROOM (03 R46). -/
def setRoomRule (q : Request) (s : State) : Executed :=
  match setRoomFields q.body with
  | .error p => badValue s p
  | .ok (r, new) =>
    if (s.roomSettings r).identityDiffers new && s.roomOccupied r then
      answered s .inUse (.roomInUse (s.roomCount r) (s.slot r).isParty (s.slot r).isLead)
    else match uniquenessFault s.settings.rooms r new with
      | some f => answered s .badValue f.data
      | none =>
        let s1 := s.applyRoom r new
        answered s1 .done (.roomSet (s1.room r).zoneIndex new.enabled)

/-- SET_ROOM (03 R46 to R48). -/
def execSetRoom (s : State) : Host.Outcome State Fault Refusal := .next (s.executeNamed nameSetRoom setRoomRule)

/-! ## SET ROOM MODE (03 R49 to R51, 05 R97) -/

/-- The slot on a change to LOCKED: every member is denied ROOM_LOCKED without an overlay and the party is cleared; a lead is
cleared without a verdict (03 R50, 05 R97). -/
def State.lockSlot (s : State) (r : RoomId) : State :=
  match s.slot r with
  | .party p =>
    (p.members.foldl (fun s m => s.issueSilently (s.memberVerdict r m p.members.length .deny .roomLocked)) s).setSlot r .empty
  | .lead _ => s.setSlot r .empty
  | .empty => s

/-- A running ENTRY program ended with the end actions; an EXIT program runs on (07 R133). -/
def State.cancelEntry (s : State) (r : RoomId) : State :=
  match (s.door r).program with
  | some p => match p.kind with
    | .entry => s.cancelProgram r
    | .exit => s
  | none => s

/-- The slot on a change from NORMAL to CONTRACTOR_HOLD: every member is denied ROOM_HOLD and the party is cleared; a lead is
kept (03 R51, 05 R97). -/
def State.holdSlot (s : State) (r : RoomId) : State :=
  match s.slot r with
  | .party _ => s.breakSlot r .roomHold
  | _ => s

/-- A room's mode changed, and the other blocks told (03 R50, R51). -/
def State.changeMode (s : State) (r : RoomId) (new : RoomMode) : State :=
  let s1 := s.setRoom r { s.room r with mode := new }
  match new with
  | .locked =>
    let s2 := (s1.lockSlot r).cancelEntry r
    s2.setRoom r { s2.room r with entryOverlay := none }
  | .contractorHold => if (s.room r).mode = .normal then s1.holdSlot r else s1
  | .normal => s1

/-- SET ROOM MODE (03 R49). -/
def setRoomModeRule (q : Request) (s : State) : Executed :=
  match roomModeFields q.body with
  | .error p => badValue s p
  | .ok (r, new) =>
    let old := (s.room r).mode
    if !(s.roomSettings r).enabled then answered s .notAllowed .nothing
    else if old = new then answered s .done (.previousMode old)
    else answered (s.changeMode r new) .done (.previousMode old)

/-- SET_ROOM_MODE (03 R49 to R51). -/
def execSetRoomMode (s : State) : Host.Outcome State Fault Refusal :=
  .next (s.executeNamed nameSetRoomMode setRoomModeRule)

/-! ## READ ROOM (03 R57) -/

/-- The picture of a room with up to four records from a first position (03 R57). -/
def State.roomPicture (s : State) (r : RoomId) (first : Nat) : RoomPicture :=
  { settings := s.roomSettings r
    zoneIndex := (s.room r).zoneIndex
    mode := (s.room r).mode
    rollState := (s.room r).rollState
    door := (s.door r).state
    running := (s.door r).program.isSome
    entryImage := s.entryImage r
    exitImage := s.exitImage r
    slot := (s.slot r).picture
    total := s.roomCount r
    records := ((s.recordsOf r).drop first).take 4 }

/-- READ ROOM (03 R57). -/
def readRoomRule (q : Request) (s : State) : Executed :=
  match readRoomFields q.body with
  | .error p => badValue s p
  | .ok (r, first) => answered s .done (.room (s.roomPicture r first))

/-- READ_ROOM (03 R57). -/
def execReadRoom (s : State) : Host.Outcome State Fault Refusal := .next (s.executeNamed nameReadRoom readRoomRule)

/-! ## RECONCILE ROOM (06 R117, R118) -/

/-- The records of a room not named leave as one departure, and its roll state becomes EXACT (06 R118). -/
def State.reconcile (s : State) (r : RoomId) (named : List Nat) : State :=
  (s.depart r (fun p => !named.contains p.credential) .reconcile).setRollState r .exact

/-- RECONCILE ROOM (06 R117, R118). -/
def reconcileRoomRule (q : Request) (s : State) : Executed :=
  match reconcileFields q.body with
  | .error p => badValue s p
  | .ok (r, named) =>
    if !(s.roomSettings r).enabled then answered s .notAllowed .nothing
    else
      let records := s.recordsOf r
      let kept := records.countP fun p => named.contains p.credential
      let ignored := (named.eraseDups.filter fun c => !records.any fun p => p.credential == c).length
      answered (s.reconcile r named) .done (.reconciled (records.length - kept) kept ignored)

/-- RECONCILE_ROOM (06 R118). -/
def execReconcileRoom (s : State) : Host.Outcome State Fault Refusal :=
  .next (s.executeNamed nameReconcileRoom reconcileRoomRule)

end Sys2Proof.Machine
end

