-- ==== Sys2Proof/Machine/Seconds.lean ====
section
/-! DEFINITION. The passing of seconds (chapter 2): the count of the Estate Clock, the minute event, the staleness check and the
minute walk of the roll. -/

namespace Sys2Proof.Machine

/-- The clock with one more second counted, at a second below 59 (02 R25). -/
def Clock.nextSecond (c : Clock) : Clock := { c with second := c.second + 1, nextCount := c.nextCount + 1000 }

/-- The clock with one more second counted that takes the second past 59: the estate minute, held at its ceiling, and second 0
(02 R25). -/
def Clock.nextMinute (c : Clock) : Clock :=
  { c with second := 0, minute := addMinutes c.minute 1, nextCount := c.nextCount + 1000 }

/-- Whether the next count takes the second past 59 and so emits the minute event (02 R25). -/
def Clock.endsMinute (c : Clock) : Bool := 59 ≤ c.second

/-- The staleness check at a minute event: the count rises, held at 65,535, and at 1440 in SET the time becomes STALE with its
alarm (02 R29). -/
def State.staleness (s : State) : State :=
  let count := min (s.clock.sinceTime + 1) Config.sinceTimeCeiling
  if count = Config.staleAfter ∧ s.clock.timeState = .set then
    (s.withClock { s.clock with sinceTime := count, timeState := .stale }).raise none none none
      (.timeStale s.clock.minute s.clock.lastTime)
  else s.withClock { s.clock with sinceTime := count }

/-- The minute event taken by the staleness check and by the roll, in the order the operand gives (02 R28, log 11). -/
def State.minuteEvent (s : State) (staleFirst : Bool) : State :=
  if staleFirst then s.staleness.rollMinute s.clock.minute
  else (s.rollMinute s.clock.minute).staleness

/-- SECOND_TICK: the count due is made, and a minute event follows where it takes the second past 59 (02 R25, R28). -/
def execSecondTick (staleFirst : Bool) (s : State) : Host.Outcome State Fault Refusal :=
  .next
    (if s.isRunning then
      let s1 := s.advance s.clock.nextCount
      if s.clock.endsMinute then (s1.withClock s.clock.nextMinute).minuteEvent staleFirst
      else s1.withClock s.clock.nextSecond
    else s)

end Sys2Proof.Machine
end

