-- ==== Sys2Proof/Machine/Trunk.lean ====
section
/-! DEFINITION. The Trunk Port (chapter 9) and the reply arbiter (chapter 10): which frames are taken, TIME, COMMAND and POLL
frames, the reply and its end, and the frames that come to nothing. -/

namespace Sys2Proof.Machine

/-! ## Which frames are taken (09 R156, R157) -/

/-- What a frame received whole is to the part (09 R157). -/
inductive TrunkFrame where
  | ignored
  | time (payload : List Byte)
  | command (payload : List Byte)
  | poll (payload : List Byte)
  deriving DecidableEq, Repr

/-- Whether a COMMAND payload holds ASSIGN ADDRESS with a serial number (09 R155, R157). -/
def holdsAssign (serial : Nat) (payload : List Byte) : Bool :=
  match payload with
  | _ :: name :: body =>
    name.toNat == nameAssignAddress && 4 ≤ body.length && numberOf (body.take 4) == serial
  | _ => false

/-- A frame judged by its destination, source and kind (09 R157). -/
def judgeTrunk (address serial : Nat) (f : Frame) : TrunkFrame :=
  if f.source ≠ Config.headEnd then .ignored
  else if f.destination = 0 then (if f.kind = kindTime then .time f.payload else .ignored)
  else if f.destination ≠ address then .ignored
  else if address = Config.unassigned then
    (if f.kind = kindCommand ∧ holdsAssign serial f.payload then .command f.payload else .ignored)
  else if f.kind = kindTime then .time f.payload
  else if f.kind = kindCommand then .command f.payload
  else if f.kind = kindPoll then .poll f.payload
  else .ignored

/-- Whether the Trunk Port receives: RUNNING, and not sending a reply (09 R156). The reply counts as being sent from the POLL on,
the 1 ms to 5 ms before its first bit included (DESIGN CHOICE, log 44). -/
def State.receives (s : State) : Bool := s.isRunning && s.trunk.reply.isNone

/-- What the Trunk Port makes of bytes on the line: nothing of them while it does not receive (09 R156, R157). -/
def State.hears (s : State) (bytes : List Byte) : TrunkFrame :=
  if s.receives then
    match receive bytes with
    | .whole f => judgeTrunk s.trunk.address s.serial f
    | _ => .ignored
  else .ignored

/-! ## TIME (02 R26, 12 R185) -/

/-- The clock set by a TIME frame taken at a moment (02 R26). -/
def Clock.setTo (minute second : Nat) (moment : Nat) : Clock :=
  { minute := minute, second := second, timeState := .set, sinceTime := 0, lastTime := some minute,
    nextCount := moment + 1000 }

/-- The minute and second of a TIME payload that the clock takes: 5 bytes, with a second of 0 to 59 (02 R26, 12 R185). -/
def timeOf (payload : List Byte) : Option (Nat × Nat) :=
  if payload.length = 5 then
    let second := numberOf (payload.drop 4)
    if second ≤ 59 then some (numberOf (payload.take 4), second) else none
  else none

/-- TIME_FRAME: the Estate Clock takes the frame's minute and second; the silence timer is not restarted (02 R26, 09 R157). -/
def execTimeFrame (moment : Nat) (bytes : List Byte) (s : State) : Host.Outcome State Fault Refusal :=
  .next
    (match s.hears bytes with
    | .time payload => match timeOf payload with
      | some (minute, second) =>
        let s1 := s.advance moment
        s1.withClock (Clock.setTo minute second s1.now)
      | none => s
    | _ => s)

/-! ## The silence timer and the command queue (09 R159, R161) -/

/-- The silence timer restarted with the setting in force (09 R159). -/
def State.restartSilence (s : State) : State :=
  s.withTrunk { s.trunk with silenceTimer := some (s.startTimer (s.settings.part.trunkSilence * 1000)) }

/-- A COMMAND payload offered to the command queue: one too short for a tag and a name is not offered, and one that finds 4
waiting is dropped and counted (09 R157, R161). -/
def State.offerCommand (s : State) (payload : List Byte) : State :=
  match payload with
  | tag :: name :: body =>
    if s.trunk.commands.length < Config.commandPlaces then
      s.withTrunk { s.trunk with
        commands := s.trunk.commands ++ [{ tag := tag.toNat, name := name.toNat, body := body }] }
    else s.withTrunk { s.trunk with refusals := countUp s.trunk.refusals }
  | _ => s

/-- COMMAND_FRAME (09 R157, R161). -/
def execCommandFrame (moment : Nat) (bytes : List Byte) (s : State) : Host.Outcome State Fault Refusal :=
  .next
    (match s.hears bytes with
    | .command payload => ((s.advance moment).restartSilence).offerCommand payload
    | _ => s)

/-! ## The reply arbiter (10 R169) and the header (10 R170) -/

/-- The arbiter's choice by the hold flag: the item, and the queues with it removed (10 R169). -/
def Reports.choose (q : Reports) (hold : Bool) : ReplyItem × Reports :=
  match q.alarms with
  | a :: rest => (.alarm a, { q with alarms := rest })
  | [] => match q.answers with
    | a :: rest => (.answer a, { q with answers := rest })
    | [] =>
      if hold then (.empty, q)
      else match q.routine with
        | i :: rest => (.routine i, { q with routine := rest })
        | [] => (.empty, q)

/-- Whether an item is the answer to an executed RESTART (09 R168). -/
def ReplyItem.restarts : ReplyItem → Bool
  | .answer a => a.name == nameRestart && a.status == .done
  | _ => false

/-- The header composed over the queues as they stand after the choice (10 R170). -/
def State.header (s : State) (silent : Bool) : ReplyHeader :=
  { timeState := s.clock.timeState, store := s.retired.store, silent := silent, overflow := s.reports.overflow,
    discards := s.reports.discards, refusals := s.trunk.refusals, alarms := s.reports.alarms.length,
    routine := s.reports.routine.length }

/-- The header's counts are set to 0 when it has taken them (10 R170). -/
def State.clearCounts (s : State) : State :=
  (s.withReports { s.reports with discards := 0 }).withTrunk { s.trunk with refusals := 0 }

/-- The reply to a POLL composed and begun: the item leaves its queue, the header is composed, and the frame is on the line
(09 R158, 10 R169, R170). -/
def State.reply (s : State) (silent hold : Bool) : State :=
  let (item, reports) := s.reports.choose hold
  let s1 := s.withReports reports
  let frame := replyFrame s.trunk.address (s1.header silent) item
  let s2 := s1.clearCounts
  s2.withTrunk { s2.trunk with reply := some { frame := frame.bytes, carriesRestart := item.restarts } }

/-! ## POLL (09 R158, R160) -/

/-- The whole seconds of silence up to now, held at 65,535 (09 R160). -/
def State.silentSeconds (s : State) : Nat :=
  min ((s.now - s.trunk.silentSince.getD s.now) / 1000) Config.silentCeiling

/-- A SILENT link restored by a POLL, with LINK_RESTORED (09 R160). -/
def State.restoreLink (s : State) : State :=
  match s.trunk.link with
  | .online => s
  | .silent =>
    (s.withTrunk { s.trunk with link := .online, silentSince := none }).raise none none none
      (.linkRestored s.silentSeconds)

/-- POLL: the silence timer restarts, the link is restored, and one reply is begun (09 R158, R160). -/
def execPoll (moment : Nat) (bytes : List Byte) (s : State) : Host.Outcome State Fault Refusal :=
  .next
    (match s.hears bytes with
    | .poll payload =>
      let s1 := (s.advance moment).restartSilence
      s1.restoreLink.reply (s.trunk.link == .silent) (holdFlag payload)
    | _ => s)

/-! ## The end of a reply, and frames that come to nothing (09 R156, R158, R168) -/

/-- REPLY_SENT: the line is released; where the reply carried the RESTART answer, the part is about to reset (09 R158, R168,
log 22). -/
def execReplySent (moment : Nat) (s : State) : Host.Outcome State Fault Refusal :=
  .next
    (if s.isRunning then
      match s.trunk.reply with
      | some sent =>
        let s1 := (s.advance moment).withTrunk { s.trunk with reply := none }
        if sent.carriesRestart then s1.withExecutor .restartSent else s1
      | none => s
    else s)

/-- TRUNK_GAP_ABANDON: the frame begun is abandoned silently; no state of the part is in it (09 R156, log 1). -/
def execTrunkGapAbandon (_bytes : List Byte) (s : State) : Host.Outcome State Fault Refusal := .next s

/-- TRUNK_FRAME_DISCARDED: a frame abandoned, ignored or discarded while STARTING changes no state (09 R156, R157, log 1). -/
def execTrunkFrameDiscarded (_bytes : List Byte) (s : State) : Host.Outcome State Fault Refusal := .next s

end Sys2Proof.Machine
end

