-- ==== Sys2Proof/Machine/StartUp.lean ====
section
/-! DEFINITION. Start-up (chapter 11): the two resets, the stages of STARTING, the entry into RUNNING and the loss of the
supply. -/

namespace Sys2Proof.Machine

/-! ## A write cut short (11 R183) -/

/-- What a write of an image leaves in the memory when it is cut short (11 R183, log 10, log 30). A cut during the clearing that
follows a differing read-back has the outcome of a memory that stops answering there. -/
def cutWrite (memory : ConfigMemory) (copy : SettingsImage) : WriteCut → ConfigMemory
  | .beforeClear => memory
  | .beforeSignature => { signature := false, image := none }
  | .afterSignature => { signature := true, image := some copy }
  | .beforeSecondClear found => { signature := true, image := some found }
  | .afterSecondClear => { signature := false, image := none }

/-- The memory when the part stops: a write in flight ends where it stands (11 R183). -/
def State.memoryAtCut (s : State) (cut : WriteCut) : ConfigMemory :=
  match s.executor with
  | .saving _ copy => cutWrite s.memory copy cut
  | _ => s.memory

/-! ## Resets (11 R177) -/

/-- The items of state that every reset empties or returns to their first values, the zone indices following the settings in
force (11 R181). -/
def State.freshVolatile (s : State) : State :=
  { s with
    permits := []
    roster := []
    clock := Clock.atReset (s.now + 1000)
    rooms := s.settings.rooms.map fun r => RoomState.atReset (zoneIndexOf s.settings.part r.roomCode)
    slots := Vector.replicate 6 .empty
    roll := []
    doors := Vector.replicate 6 Door.atReset
    stations := Vector.replicate 16 StationState.atReset
    field := FieldPort.atReset
    trunk := TrunkPort.atReset s.trunk.address
    executor := .free
    reports := Reports.atReset
    lastSeen := Vector.replicate 16 none }

/-- STARTING entered at the self-test by a reset of a kind. The timebase counts from the reset; the settings stand at their
defaults until the load ends; a RESTART keeps the trunk address, and a power-on has none until the load (11 R177, 09 R154,
log 3, log 29). -/
def State.enterStarting (s : State) (kind : ResetKind) : State :=
  let address := match kind with
    | .powerOn => Config.unassigned
    | .restart => s.trunk.address
  State.freshVolatile
    { s with
      phase := .selfTest kind
      now := 0
      settings := Settings.default
      retired := RetiredMap.clear
      loadResult := { memoryPresent := false, imageValid := false }
      trunk := TrunkPort.atReset address }

/-- POWER_ON_RESET: from any phase; a write still in flight is cut short (11 R177, R183). -/
def execPowerOnReset (cut : WriteCut) (s : State) : Host.Outcome State Fault Refusal :=
  .next ((s.withMemory (s.memoryAtCut cut)).enterStarting .powerOn)

/-- Whether the reply that carries the RESTART answer has been sent to its last stop bit (09 R168, log 22). -/
def State.restartDue (s : State) : Bool :=
  s.executor == .restartSent || (match s.trunk.reply with
    | some sent => sent.carriesRestart
    | none => false)

/-- RESTART_RESET (09 R168). -/
def execRestartReset (s : State) : Host.Outcome State Fault Refusal :=
  .next (if s.isRunning && s.restartDue then s.enterStarting .restart else s)

/-- POWER_LOST: the part stops where it stands and stays in reset; a write in flight is cut short (11 R177, R183, log 26). -/
def execPowerLost (cut : WriteCut) (s : State) : Host.Outcome State Fault Refusal :=
  .next
    (let s1 := s.withMemory (s.memoryAtCut cut)
    let s2 := match s.executor with
      | .saving _ _ => s1.withExecutor .free
      | _ => s1
    s2.withPhase .inReset)

/-! ## The self-test (11 R178) -/

/-- SELF_TEST_END: the retired-cell map is fixed, and the settings load begins (11 R178, R179). -/
def execSelfTestEnd (moment : Nat) (failing : List Nat) (s : State) : Host.Outcome State Fault Refusal :=
  .next
    (match s.phase with
    | .selfTest kind => ((s.advance moment).withRetired (selfTest failing)).withPhase (.settingsLoad kind)
    | _ => s)

/-! ## The settings load and the entry into RUNNING (11 R180, R181) -/

/-- The image that a load takes: the memory answers, the signature is good and every value passes its check (11 R180). -/
def validImage (memory : ConfigMemory) (answers : Bool) : Option SettingsImage :=
  if answers && memory.signature then
    match memory.image with
    | some i => if imageGood i then some i else none
    | none => none
  else none

/-- The trunk address after a load (09 R154). -/
def loadedAddress (kind : ResetKind) (held : Nat) (image : Option SettingsImage) : Nat :=
  match kind with
  | .restart => held
  | .powerOn => match image with
    | some i => i.address.getD Config.unassigned
    | none => Config.unassigned

/-- The settings of a load: the image whole, or every default (11 R180). -/
def loadedSettings (image : Option SettingsImage) : Settings :=
  match image with
  | some i => i.settings
  | none => Settings.default

/-- The settings, the load's two results and the trunk address taken from a load (11 R180). -/
def State.takeLoad (s : State) (kind : ResetKind) (answers : Bool) : State :=
  let image := validImage s.memory answers
  ((s.withSettings (loadedSettings image)).withLoadResult { memoryPresent := answers, imageValid := image.isSome }).withTrunk
    { s.trunk with address := loadedAddress kind s.trunk.address image }

/-- The entry into RUNNING: every item at its value for a reset, the first station chosen, the silence timer started and the
STARTUP alarm placed (11 R181). -/
def State.enterRunning (s : State) : State :=
  let s1 := (s.freshVolatile.withPhase .running).chooseStation.restartSilence
  s1.raise none none none (.startUp s1.retired.store s1.retired.count)

/-- SETTINGS_LOAD_END (11 R180, R181). -/
def execSettingsLoadEnd (moment : Nat) (answers : Bool) (s : State) : Host.Outcome State Fault Refusal :=
  .next
    (match s.phase with
    | .settingsLoad kind => ((s.advance moment).takeLoad kind answers).enterRunning
    | _ => s)

end Sys2Proof.Machine
end

