-- ==== Sys2Proof/Machine/Tables.lean ====
section
/-! DEFINITION. The meanings of the requests on the Permit Table and the Escort Roster (chapter 1). -/

namespace Sys2Proof.Machine

/-! ## LOAD PERMIT (01 R7 to R9) -/

/-- The lock of an insert (01 R8). KEEP does not reach an insert (01 R7). -/
def LockSetting.inserted : LockSetting → IssueLock
  | .off => .off
  | .learn => .learn
  | .fixed level => .fixed level
  | .keep => .off

/-- The lock of a replace (01 R9). -/
def LockSetting.replacing (setting : LockSetting) (old : IssueLock) : IssueLock :=
  match setting with
  | .keep => old
  | other => other.inserted

/-- The record an insert stores, before its cells are taken (01 R8). -/
def PermitTerms.newRecord (t : PermitTerms) : Permit :=
  { permitNumber := t.permitNumber, credential := t.credential, company := t.company, state := .active,
    lock := t.lock.inserted, grants := t.grants, lastEntry := none, headerCell := 0, grantCells := [] }

/-- The record a replace stores, before its cells are taken: state and last entry are kept (01 R9). -/
def PermitTerms.replacing (t : PermitTerms) (old : Permit) : Permit :=
  { old with
    permitNumber := t.permitNumber, company := t.company, lock := t.lock.replacing old.lock, grants := t.grants }

/-- A checked LOAD PERMIT stored where its cells suffice: the old record's cells, where there is one, are freed first (01 R8,
R9). -/
def State.storePermit (s : State) (kind : LoadKind) (record : Permit) : Executed :=
  let others := removePermit record.credential s.permits
  let free := freeCells s.retired others
  let needed := cellsNeeded record.grants
  if free.length < needed then answered s .noRoom (.cellsShort needed free.length)
  else
    let stored := record.placed free
    let s1 := s.withPermits (insertPermit stored others)
    answered s1 .done (.permitLoaded kind needed s1.freeNow)

/-- LOAD PERMIT (01 R7). -/
def loadPermitRule (r : Request) (s : State) : Executed :=
  match permitTerms (fun c => (s.permitOf c).isSome) r.body with
  | .error p => badValue s p
  | .ok t =>
    if (s.staffOf t.credential).isSome then answered s .conflict .heldByRoster
    else match s.permitOf t.credential with
      | none => s.storePermit .inserted t.newRecord
      | some old => s.storePermit .replaced (t.replacing old)

/-- LOAD_PERMIT (01 R7 to R9). -/
def execLoadPermit (s : State) : Host.Outcome State Fault Refusal := .next (s.executeNamed nameLoadPermit loadPermitRule)

/-! ## DROP PERMIT (01 R10) -/

def dropPermitRule (r : Request) (s : State) : Executed :=
  match credentialField r.body with
  | .error p => badValue s p
  | .ok c =>
    match s.permitOf c with
    | none => answered s .notFound .nothing
    | some p => match s.contractorPosition c with
      | .outside => answered (s.withPermits (removePermit c s.permits)) .done (.cellsFreed (cellsNeeded p.grants))
      | position => answered s .inUse (.holderAt position)

/-- DROP_PERMIT (01 R10). -/
def execDropPermit (s : State) : Host.Outcome State Fault Refusal := .next (s.executeNamed nameDropPermit dropPermitRule)

/-! ## Permit state (01 R11 to R14) -/

/-- A permit's state set. -/
def State.setPermitState (s : State) (c : Nat) (x : PermitState) : State :=
  s.withPermits (s.permits.map fun p => if p.credential = c then { p with state := x } else p)

/-- The reason a withdrawal gives a party member (05 R96). -/
def PermitState.withdrawalReason : PermitState → Reason
  | .suspended => .suspended
  | _ => .revoked

/-- A withdrawal notice taken by the Party Unit at one room: the member leaves with one denial, the others keep their order,
and an empty party is cleared (05 R96). -/
def State.withdrawAt (s : State) (r : RoomId) (c : Nat) (reason : Reason) : State :=
  match s.slot r with
  | .party party =>
    match party.members.find? fun m => m.credential == c with
    | some m => (s.setSlot r ((s.slot r).without c)).issue (s.memberVerdict r m party.members.length .deny reason)
    | none => s
  | _ => s

/-- A withdrawal notice goes to the Party Unit and to the Occupancy Roll (01 R14). -/
def State.withdraw (s : State) (c : Nat) (x : PermitState) : State :=
  (allRooms.foldl (fun s r => s.withdrawAt r c x.withdrawalReason) s).withdrawInside c x

/-- SUSPEND PERMIT (01 R11). -/
def suspendPermitRule (r : Request) (s : State) : Executed :=
  match credentialField r.body with
  | .error p => badValue s p
  | .ok c =>
    match s.permitOf c with
    | none => answered s .notFound .nothing
    | some p => match p.state with
      | .active =>
        answered ((s.setPermitState c .suspended).withdraw c .suspended) .done (.previousPermitState .active)
      | .suspended => answered s .done (.previousPermitState .suspended)
      | .revoked => answered s .notAllowed .nothing

/-- SUSPEND_PERMIT (01 R11). -/
def execSuspendPermit (s : State) : Host.Outcome State Fault Refusal :=
  .next (s.executeNamed nameSuspendPermit suspendPermitRule)

/-- RESUME PERMIT (01 R12). -/
def resumePermitRule (r : Request) (s : State) : Executed :=
  match credentialField r.body with
  | .error p => badValue s p
  | .ok c =>
    match s.permitOf c with
    | none => answered s .notFound .nothing
    | some p => match p.state with
      | .active => answered s .done (.previousPermitState .active)
      | .suspended => answered (s.setPermitState c .active) .done (.previousPermitState .suspended)
      | .revoked => answered s .notAllowed .nothing

/-- RESUME_PERMIT (01 R12). -/
def execResumePermit (s : State) : Host.Outcome State Fault Refusal :=
  .next (s.executeNamed nameResumePermit resumePermitRule)

/-- REVOKE PERMIT (01 R13). -/
def revokePermitRule (r : Request) (s : State) : Executed :=
  match credentialField r.body with
  | .error p => badValue s p
  | .ok c =>
    match s.permitOf c with
    | none => answered s .notFound .nothing
    | some p => match p.state with
      | .revoked => answered s .done (.previousPermitState .revoked)
      | old => answered ((s.setPermitState c .revoked).withdraw c .revoked) .done (.previousPermitState old)

/-- REVOKE_PERMIT (01 R13). -/
def execRevokePermit (s : State) : Host.Outcome State Fault Refusal :=
  .next (s.executeNamed nameRevokePermit revokePermitRule)

/-! ## READ PERMIT and PURGE PERMITS (01 R17, R18) -/

def readPermitRule (r : Request) (s : State) : Executed :=
  match credentialField r.body with
  | .error p => badValue s p
  | .ok c =>
    match s.permitOf c with
    | none => answered s .notFound .nothing
    | some p => answered s .done (.permitPicture p (cellsNeeded p.grants) (s.contractorPosition c))

/-- READ_PERMIT (01 R17). -/
def execReadPermit (s : State) : Host.Outcome State Fault Refusal := .next (s.executeNamed nameReadPermit readPermitRule)

/-- Whether a record has expired and is not in use (01 R18). -/
def State.purgeable (s : State) (p : Permit) : Bool :=
  p.grants.all (fun g => g.validUntil ≤ s.clock.minute) && s.contractorPosition p.credential == .outside

/-- PURGE PERMITS (01 R18). -/
def purgePermitsRule (r : Request) (s : State) : Executed :=
  match noFields r.body with
  | .error p => badValue s p
  | .ok _ =>
    if s.clock.timeState = .unset then answered s .notAllowed (.purged 0 0)
    else
      let gone := s.permits.filter s.purgeable
      answered (s.withPermits (s.permits.filter fun p => !s.purgeable p)) .done
        (.purged gone.length (gone.map fun p => cellsNeeded p.grants).sum)

/-- PURGE_PERMITS (01 R18). -/
def execPurgePermits (s : State) : Host.Outcome State Fault Refusal :=
  .next (s.executeNamed namePurgePermits purgePermitsRule)

/-! ## The Escort Roster (01 R19 to R21) -/

def loadEscortRule (r : Request) (s : State) : Executed :=
  match staffFields r.body with
  | .error p => badValue s p
  | .ok t =>
    if (s.permitOf t.credential).isSome then answered s .conflict .heldByPermits
    else
      let stored := s.withRoster (insertStaff t (removeStaff t.credential s.roster))
      match s.staffOf t.credential with
      | some _ => answered stored .done .staffReplaced
      | none =>
        if s.roster.length < Config.rosterPlaces then answered stored .done (.staffInserted stored.roster.length)
        else answered s .noRoom .nothing

/-- LOAD_ESCORT (01 R19). -/
def execLoadEscort (s : State) : Host.Outcome State Fault Refusal := .next (s.executeNamed nameLoadEscort loadEscortRule)

def dropEscortRule (r : Request) (s : State) : Executed :=
  match credentialField r.body with
  | .error p => badValue s p
  | .ok c =>
    match s.staffOf c with
    | none => answered s .notFound .nothing
    | some _ => match s.staffPosition c with
      | .outside =>
        let s1 := s.withRoster (removeStaff c s.roster)
        answered s1 .done (.staffHeld s1.roster.length)
      | position => answered s .inUse (.holderAt position)

/-- DROP_ESCORT (01 R20). -/
def execDropEscort (s : State) : Host.Outcome State Fault Refusal := .next (s.executeNamed nameDropEscort dropEscortRule)

def readEscortRule (r : Request) (s : State) : Executed :=
  match credentialField r.body with
  | .error p => badValue s p
  | .ok c =>
    match s.staffOf c with
    | none => answered s .notFound .nothing
    | some t => answered s .done (.staffPicture t (s.staffPosition c) (s.linkedCount c))

/-- READ_ESCORT (01 R21). -/
def execReadEscort (s : State) : Host.Outcome State Fault Refusal := .next (s.executeNamed nameReadEscort readEscortRule)

/-! ## CLEAR TABLES (01 R22) -/

def clearTablesRule (r : Request) (s : State) : Executed :=
  match noFields r.body with
  | .error p => badValue s p
  | .ok _ =>
    if 0 < s.roll.length ∨ 0 < s.partiesPending ∨ 0 < s.leadsHeld then
      answered s .inUse (.tablesInUse s.roll.length s.partiesPending s.leadsHeld)
    else
      let s1 := (s.withPermits []).withRoster []
      answered s1 .done (.tablesCleared s.permits.length s.roster.length s1.freeNow)

/-- CLEAR_TABLES (01 R22). -/
def execClearTables (s : State) : Host.Outcome State Fault Refusal :=
  .next (s.executeNamed nameClearTables clearTablesRule)

end Sys2Proof.Machine
end

