-- ==== Sys2Proof/Machine/Dispatch.lean ====
section
/-! DEFINITION. The meaning of every command: one arm for each constructor of Instr. -/

namespace Sys2Proof.Machine

def exec (i : Instr) (s : State) : Host.Outcome State Fault Refusal :=
  match i with
  | .powerOnReset cut => Sys2Proof.Machine.execPowerOnReset cut s
  | .selfTestEnd moment failing => Sys2Proof.Machine.execSelfTestEnd moment failing s
  | .settingsLoadEnd moment answers => Sys2Proof.Machine.execSettingsLoadEnd moment answers s
  | .restartReset => Sys2Proof.Machine.execRestartReset s
  | .trunkGapAbandon bytes => Sys2Proof.Machine.execTrunkGapAbandon bytes s
  | .timeFrame moment bytes => Sys2Proof.Machine.execTimeFrame moment bytes s
  | .commandFrame moment bytes => Sys2Proof.Machine.execCommandFrame moment bytes s
  | .poll moment bytes => Sys2Proof.Machine.execPoll moment bytes s
  | .silenceTimerExpiry => Sys2Proof.Machine.execSilenceTimerExpiry s
  | .unknownRequest => Sys2Proof.Machine.execUnknownRequest s
  | .loadPermit => Sys2Proof.Machine.execLoadPermit s
  | .dropPermit => Sys2Proof.Machine.execDropPermit s
  | .suspendPermit => Sys2Proof.Machine.execSuspendPermit s
  | .resumePermit => Sys2Proof.Machine.execResumePermit s
  | .revokePermit => Sys2Proof.Machine.execRevokePermit s
  | .readPermit => Sys2Proof.Machine.execReadPermit s
  | .purgePermits => Sys2Proof.Machine.execPurgePermits s
  | .loadEscort => Sys2Proof.Machine.execLoadEscort s
  | .dropEscort => Sys2Proof.Machine.execDropEscort s
  | .readEscort => Sys2Proof.Machine.execReadEscort s
  | .clearTables => Sys2Proof.Machine.execClearTables s
  | .setRoom => Sys2Proof.Machine.execSetRoom s
  | .setRoomMode => Sys2Proof.Machine.execSetRoomMode s
  | .readRoom => Sys2Proof.Machine.execReadRoom s
  | .reconcileRoom => Sys2Proof.Machine.execReconcileRoom s
  | .setProgram => Sys2Proof.Machine.execSetProgram s
  | .cancelRelease => Sys2Proof.Machine.execCancelRelease s
  | .resumeRoom => Sys2Proof.Machine.execResumeRoom s
  | .remoteRelease => Sys2Proof.Machine.execRemoteRelease s
  | .setStation => Sys2Proof.Machine.execSetStation s
  | .setPart => Sys2Proof.Machine.execSetPart s
  | .carry => Sys2Proof.Machine.execCarry s
  | .readStatus => Sys2Proof.Machine.execReadStatus s
  | .saveSettings answers => Sys2Proof.Machine.execSaveSettings answers s
  | .saveWriteEnd moment outcome => Sys2Proof.Machine.execSaveWriteEnd moment outcome s
  | .restart => Sys2Proof.Machine.execRestart s
  | .assignAddress => Sys2Proof.Machine.execAssignAddress s
  | .secondTick staleFirst => Sys2Proof.Machine.execSecondTick staleFirst s
  | .visitSend moment => Sys2Proof.Machine.execVisitSend moment s
  | .visitTimeout => Sys2Proof.Machine.execVisitTimeout s
  | .fieldGapAbandon moment bytes => Sys2Proof.Machine.execFieldGapAbandon moment bytes s
  | .fieldFrame moment bytes began => Sys2Proof.Machine.execFieldFrame moment bytes began s
  | .heldTimerExpiry room => Sys2Proof.Machine.execHeldTimerExpiry room s
  | .waitExpiry room => Sys2Proof.Machine.execWaitExpiry room s
  | .partyWindowExpiry room => Sys2Proof.Machine.execPartyWindowExpiry room s
  | .leadWindowExpiry room => Sys2Proof.Machine.execLeadWindowExpiry room s
  | .overlayExpiry room direction => Sys2Proof.Machine.execOverlayExpiry room direction s
  | .trunkFrameDiscarded bytes => Sys2Proof.Machine.execTrunkFrameDiscarded bytes s
  | .replySent moment => Sys2Proof.Machine.execReplySent moment s
  | .powerLost cut => Sys2Proof.Machine.execPowerLost cut s

end Sys2Proof.Machine
end

