-- ==== Sys2Proof/Safety.lean ====
section
/-! DEFINITION. What holds of the part between commands: the invariants that the statements are made in. Each is a property of
one state, named after what it keeps. -/

namespace Sys2Proof.Machine

/-! ## Stations (08 R142) -/

/-- A station's missed count never exceeds 3, and a station is OFFLINE exactly when its count is 3 (08 R142). -/
def StationState.sound (t : StationState) : Prop :=
  t.missed ≤ Config.missesToOffline ∧ (t.online = .offline ↔ t.missed = Config.missesToOffline)

/-- Every station is sound. -/
def State.stationsSound (s : State) : Prop := ∀ a, (s.station a).sound

/-! ## Doors (07 R122 to R139) -/

/-- The law of a door. The lock is UNLOCKED, an output ON and the WAIT timer running only while a program runs, and a running
program is in a WAIT (07 R123, R129, R131); the held timer runs exactly while the door is OPEN with the shunt OFF (07 R127);
RELEASED has the lock UNLOCKED, SECURE and FORCED have it LOCKED (07 R125, R129); a fault cause is present exactly in FAULT
and FAULT_HOLD (07 R136, R137). -/
structure Door.sound (d : Door) : Prop where
  idleLocked : d.program = none → d.image = Door.atReset.image
  waits : d.waitTimer.isSome = d.program.isSome
  heldRuns : d.heldTimer.isSome = (d.state == .opened && !d.image.shunt)
  releasedUnlocked : d.state = .released → d.image.unlocked = true
  secureLocked : d.state = .secure ∨ d.state = .forced → d.image.unlocked = false
  causeInFault : d.cause.isSome = (d.state == .fault || d.state == .faultHold)

/-- Every door is sound. -/
def State.doorsSound (s : State) : Prop := ∀ r, (s.door r).sound

/-! ## Queues (chapter 10, 09 R161 to R163, 08 R151) -/

/-- The report queues keep their bounds, and no two waiting alarms have one key (10 R171 to R174). -/
structure Reports.sound (q : Reports) : Prop where
  alarms : q.alarms.length ≤ Config.alarmPlaces
  keys : (q.alarms.map Alarm.key).Nodup
  answers : q.answers.length ≤ Config.answerPlaces
  routine : q.routine.length ≤ Config.routinePlaces
  discards : q.discards ≤ Config.countCeiling

/-- Whether a SAVE SETTINGS write is in flight (09 R164). -/
def Executor.isSaving : Executor → Bool
  | .saving _ _ => true
  | _ => false

/-- The queues keep their bounds, and while a write is in flight the answer queue keeps the place its answer needs (09 R163). -/
structure State.queuesSound (s : State) : Prop where
  reports : s.reports.sound
  commands : s.trunk.commands.length ≤ Config.commandPlaces
  refusals : s.trunk.refusals ≤ Config.countCeiling
  carry : s.field.carryDown.length ≤ Config.carryPlaces
  savePlace : s.executor.isSaving = true → s.reports.answers.length < Config.answerPlaces

/-! ## The Estate Clock (02 R24 to R29) -/

/-- The clock's values lie in their ranges; the time is UNSET exactly while no TIME frame has been taken, and the
minutes-since-TIME count is below 1440 while it is SET and at least 1440 while it is STALE (02 R24, R29). -/
structure Clock.sound (c : Clock) : Prop where
  minute : c.minute ≤ Config.lastMinute
  second : c.second ≤ 59
  since : c.sinceTime ≤ Config.sinceTimeCeiling
  unset : c.timeState = .unset ↔ c.lastTime = none
  fresh : c.timeState = .set → c.sinceTime < Config.staleAfter
  stale : c.timeState = .stale → Config.staleAfter ≤ c.sinceTime

/-! ## The tables and permit memory (01 R1 to R5) -/

/-- A permit record's own conditions: one header cell and one cell for each of its 1 to 4 grants (01 R1, R5). -/
structure Permit.sound (p : Permit) : Prop where
  credential : validCredential p.credential = true
  grants : 1 ≤ p.grants.length ∧ p.grants.length ≤ 4
  cells : p.grantCells.length = p.grants.length

/-- Whether the part is in a stage of STARTING (11 R177). -/
def Phase.isStarting : Phase → Bool
  | .selfTest _ => true
  | .settingsLoad _ => true
  | _ => false

/-- The two tables: one record at most for each credential, in one table only, and the cells that the permit records use are
all different, not retired and of permit memory (01 R1, R3, R4, R5); both tables are empty during STARTING (01 R23). -/
structure State.tablesSound (s : State) : Prop where
  permitOrder : (s.permits.map Permit.credential).Pairwise (· < ·)
  staffOrder : (s.roster.map Staff.credential).Pairwise (· < ·)
  apart : ∀ p ∈ s.permits, ∀ t ∈ s.roster, p.credential ≠ t.credential
  places : s.roster.length ≤ Config.rosterPlaces
  records : ∀ p ∈ s.permits, p.sound
  cellsApart : (usedCells s.permits).Nodup
  cellsGood : ∀ c ∈ usedCells s.permits, c < Config.permitCells ∧ s.retired.retires c = false
  emptyStarting : s.phase.isStarting = true → s.permits = [] ∧ s.roster = []

/-! ## The roll and the slots (05 R81, 06 R102) -/

/-- A party holds 1 to 4 members, and a PAIR party one (05 R81, R84). -/
def Slot.sound : Slot → Prop
  | .party p => 1 ≤ p.members.length ∧ p.members.length ≤ Config.partyPlaces ∧
      (p.rule ≠ .staff → p.members.length = 1)
  | _ => True

/-- The roll holds at most 64 records, and every slot is sound (06 R102, 05 R81). -/
structure State.peopleSound (s : State) : Prop where
  roll : s.roll.length ≤ Config.rollPlaces
  slots : ∀ r, (s.slot r).sound

/-! ## The settings (03 R45, 09 R165, 11 R180) -/

/-- The settings in force, and the trunk address, pass the checks that the settings load makes of an image (11 R180). -/
def State.settingsSound (s : State) : Prop := imageGood (imageOf s.settings s.trunk.address) = true

/-- The store's copy of a write in flight passes those checks too (11 R182). -/
def State.copySound (s : State) : Prop :=
  match s.executor with
  | .saving _ copy => imageGood copy = true
  | _ => True

/-! ## One place for each person (01 R4, R14; 05 R81; 06 R105) -/

/-- Whether a credential has no presence record. -/
def State.offRoll (s : State) (c : Nat) : Prop := ∀ p ∈ s.roll, p.credential ≠ c

/-- A credential has one presence record at most; a party member has a permit record, no presence record and one place among
all the parties; a lead has a staff record, and a WAITING lead no presence record and one room. -/
structure State.onePlace (s : State) : Prop where
  apart : ∀ p ∈ s.permits, ∀ t ∈ s.roster, p.credential ≠ t.credential
  rollOnce : (s.roll.map Presence.credential).Nodup
  membersOff : ∀ r p, s.slot r = .party p → ∀ m ∈ p.members, s.offRoll m.credential
  membersHeld : ∀ r p, s.slot r = .party p → ∀ m ∈ p.members, (s.permitOf m.credential).isSome = true
  membersOnce : ∀ r p, s.slot r = .party p → (p.members.map Member.credential).Nodup
  membersApart : ∀ r q p k, r ≠ q → s.slot r = .party p → s.slot q = .party k →
    ∀ m ∈ p.members, ∀ n ∈ k.members, m.credential ≠ n.credential
  leadsHeld : ∀ r l, s.slot r = .lead l → (s.staffOf l.staff).isSome = true
  waitingOff : ∀ r l, s.slot r = .lead l → l.kind = .waiting → s.offRoll l.staff
  waitingOnce : ∀ r q l k, r ≠ q → s.slot r = .lead l → s.slot q = .lead k → l.kind = .waiting → k.kind = .waiting →
    l.staff ≠ k.staff

/-! ## A request at the head of the command queue (09 R162, R163) -/

/-- The part runs, the executor may take a request, and this one is at the head of the command queue before `rest`. -/
structure State.atHead (s : State) (tag name : Nat) (body : List Byte) (rest : List Request) : Prop where
  running : s.phase = .running
  free : s.executor = .free
  place : s.reports.answers.length < Config.answerPlaces
  head : s.trunk.commands = { tag := tag, name := name, body := body } :: rest

/-- The state with the head of the command queue taken and nothing else changed. -/
def State.taken (s : State) (rest : List Request) : State := { s with trunk := { s.trunk with commands := rest } }

/-- The state with one answer more at the end of the answer queue and nothing else changed. -/
def State.plusAnswer (s : State) (tag name : Nat) (status : Status) (data : AnswerData) : State :=
  { s with reports := { s.reports with
      answers := s.reports.answers ++ [{ tag := tag, name := name, status := status, data := data }] } }

/-- A holder of a permit who is on no roll and in no party (01 R17). -/
def State.outside (s : State) (c : Nat) : Prop :=
  s.offRoll c ∧ ∀ r p, s.slot r = .party p → ∀ m ∈ p.members, m.credential ≠ c

/-- A staff member who is on no roll and holds no lead (01 R21). -/
def State.idleStaff (s : State) (c : Nat) : Prop :=
  s.offRoll c ∧ ∀ r l, s.slot r = .lead l → l.staff ≠ c

/-- The ranges of a grant entry (01 R2). -/
structure Grant.inRange (g : Grant) : Prop where
  dates : g.validFrom < g.validUntil ∧ g.validUntil ≤ 4294967295
  opens : g.opens ≤ 1439
  closes : 1 ≤ g.closes ∧ g.closes ≤ 1440
  weekdays : 1 ≤ g.weekdays.toNat ∧ g.weekdays.toNat ≤ 127
  maxStay : 1 ≤ g.maxStay ∧ g.maxStay ≤ 720

/-- The fields of a LOAD PERMIT as bytes (12 R185). -/
def loadPermitBytes (c n company lockCode level : Nat) (grants : List Grant) : List Byte :=
  bytesOf 4 c ++ bytesOf 3 n ++ bytesOf 2 company ++ bytesOf 1 lockCode ++ bytesOf 1 level ++ bytesOf 1 grants.length
    ++ (grants.map encodeGrant).flatten

/-- The ranges of a LOAD PERMIT's head fields (01 R7). -/
structure LoadPermitInRange (c n company lockCode level : Nat) (grants : List Grant) : Prop where
  credential : validCredential c = true
  number : 1 ≤ n ∧ n ≤ 999999
  company : 1 ≤ company ∧ company ≤ 65535
  lock : lockCode ≤ 3
  level : level < 256 ∧ (lockCode = 2 → level ≤ 15)
  count : 1 ≤ grants.length ∧ grants.length ≤ 4
  grants : ∀ g ∈ grants, g.inRange

/-- A frame for the part on the trunk line as the head-end sends it (09 R157). -/
def trunkFrame (destination kind : Nat) (payload : List Byte) : Frame :=
  { destination := destination, source := Config.headEnd, kind := kind, payload := payload }

/-- The part receives on the trunk line: it runs and sends no reply (09 R156). -/
def State.listening (s : State) : Prop := s.phase = .running ∧ s.trunk.reply = none

/-- An address that a head-end gives (09 section 9.1). -/
def assignedAddress (a : Nat) : Prop := 1 ≤ a ∧ a ≤ 250

/-- A timer started at a moment with a duration (02 R31). -/
def countdownFrom (moment duration : Nat) : Countdown := { duration := duration, ends := moment + duration }

/-- A reply frame of the visited station without a body or a carry-up payload (12 R187). -/
def plainReply (a : StationId) : Frame :=
  { destination := 0, source := fieldAddress a, kind := kindReply, payload := [0, 0] }

/-- Whether the station at a lock driver's address is held OFFLINE (07 R139). -/
def State.driverIsOfflineAt (s : State) (address : Nat) : Bool :=
  allStations.any fun a => fieldAddress a == address && (s.station a).online == .offline

/-- A program as the sixteen bytes of its eight positions (12 R185). -/
def programBytes (steps : List Step) : List Byte :=
  ((positionsOf steps).map fun p => bytesOf 1 p.code ++ bytesOf 1 p.count).flatten

/-- A step whose WAIT count lies in its range (07 R128). -/
def Step.inRange : Step → Prop
  | .wait n => 1 ≤ n ∧ n ≤ 127
  | _ => True

/-- The door with no program: the end actions as the rule lists them, for a door that is not OPEN (07 R131). -/
def Door.shutDown (d : Door) : Door :=
  { d with
    state := if d.state = .released then .secure else d.state
    image := { unlocked := false, sounder := false, beacon := false, shunt := false }
    program := none
    waitTimer := none }

/-- A reply frame of a station to the part: a body, and a carry-up payload where `up` is not empty (12 R187). -/
def replyBytes (a : StationId) (body up : List Byte) : List Byte :=
  let frame : Frame :=
    { destination := 0, source := fieldAddress a, kind := kindReply
      payload := body ++ (if up = [] then [0] else 1 :: BitVec.ofNat 8 up.length :: up) }
  frame.bytes

/-- The codes of a lock driver's events (12 R187). -/
def DriverEvent.code : DriverEvent → Nat
  | .opened => 0
  | .closed => 1
  | .button => 2
  | .fault => 3
  | .faultCleared => 4

/-- A state with a carry-up payload of a station offered to the routine queue, where there is one (08 R153). -/
def State.plusCarryUp (s : State) (a : StationId) (up : List Byte) : State :=
  if up = [] then s
  else s.withReports (s.reports.offerRoutine (.carryUpPayload s.clock.minute s.clock.second (fieldAddress a) up))

/-- A state whose outstanding visit has ended and whose next station is chosen (08 R145). -/
def State.visitOver (s : State) : State :=
  { s with field := { s.field with
      visit := none, chosen := nextStation s.settings.stations s.field.lastVisited } }

/-- A contractor part after a minute event of a minute, in a room of a check-in interval (06 R109, R111). -/
def ContractorPart.atMinute (t interval : Nat) (k : ContractorPart) : ContractorPart :=
  { k with
    overstayRaised := k.overstayRaised || k.stayDeadline ≤ t
    checkIn := match k.checkIn with
      | .armed d =>
        if t < d then .armed d
        else if k.checkInOverdue = 0 then .armed (min (d + interval) 4294967295)
        else .spent d
      | x => x
    checkInOverdue := match k.checkIn with
      | .armed d => if t < d then k.checkInOverdue else if k.checkInOverdue = 0 then 1 else 2
      | _ => k.checkInOverdue }

/-- A presence record without its check-in deadline and count, which the lone condition sets and drops (06 R110). -/
def Presence.apartFromCheckIn (p : Presence) : Presence :=
  { p with contractor := p.contractor.map fun k => { k with checkIn := .absent, checkInOverdue := 0 } }

/-- A presentation that repeat suppression lets through (03 R55). -/
def State.lets (s : State) (p : Presentation) : Prop :=
  ∀ last, look s.lastSeen p.reader = some last →
    last.credential ≠ p.credential ∨ last.moment + s.settings.part.repeatSuppression * 500 ≤ s.now

/-- The state in which a presentation let through is decided: its reader's record is set to it (03 R55). -/
def State.noted (s : State) (p : Presentation) : State :=
  { s with lastSeen := put s.lastSeen p.reader (some { credential := p.credential, moment := s.now }) }

/-- A verdict for the presenter, its optional fields absent, as a decision at this moment gives it (04 R78). -/
def State.verdictOn (s : State) (p : Presentation) (place : Option (RoomId × Direction)) (outcome : VerdictOutcome)
    (reason : Reason) : Verdict :=
  { minute := s.clock.minute, second := s.clock.second, stale := s.clock.timeState == .stale, place := place,
    reader := fieldAddress p.reader, credential := p.credential, issueLevel := p.issueLevel, intent := some p.intent,
    outcome := outcome, reason := reason, permitNumber := none, grantIndex := none, escort := none, allowance := none,
    partySize := none, removed := none }

/-- A verdict of the Party Unit for a member of a party of a size, without an allowance or an escort (05 R101). -/
def State.verdictOfMember (s : State) (r : RoomId) (m : Member) (size : Nat) (outcome : VerdictOutcome) (reason : Reason) :
    Verdict :=
  { minute := s.clock.minute, second := s.clock.second, stale := s.clock.timeState == .stale, place := some (r, .entry),
    reader := (s.roomSettings r).entryReader, credential := m.credential, issueLevel := m.issueLevel, intent := none,
    outcome := outcome, reason := reason, permitNumber := some m.permitNumber, grantIndex := some m.grantIndex,
    escort := none, allowance := none, partySize := some size, removed := none }

/-- The room table with an overlay started at this moment at a reader of a room, for its 3 s (03 R53). -/
def State.roomsShowing (s : State) (r : RoomId) (d : Direction) (image : OverlayImage) : Vector RoomState 6 :=
  let o : Overlay := { image := image, timer := countdownFrom s.now 3000 }
  put s.rooms r (match d with
    | .entry => { s.room r with entryOverlay := some o }
    | .exit => { s.room r with exitOverlay := some o })

/-- A contractor's presentation that reaches the choice of a grant: at the entry reader of a NORMAL room without a fault, with
a permit that is ACTIVE and accepts the issue level, the time being known, by a holder without a presence record who does not wait
at this room, but may wait at another (04 R61, R65 to R67, R70). -/
structure State.reachesChoice (s : State) (r : RoomId) (p : Presentation) (w : Permit) : Prop where
  place : s.placeOf (fieldAddress p.reader) = some (r, .entryReader)
  lets : s.lets p
  valid : validCredential p.credential = true
  mode : (s.room r).mode = .normal
  door : (s.door r).state ≠ .fault ∧ (s.door r).state ≠ .faultHold
  noStaff : s.staffOf p.credential = none
  permit : s.permitOf p.credential = some w
  offRoll : s.offRoll p.credential
  notWaiting : ∀ y, s.slot r = .party y → ∀ m ∈ y.members, m.credential ≠ p.credential
  time : s.clock.timeState ≠ .unset
  active : w.state = .active
  level : w.lock = .off ∨ w.lock = .learn ∨ w.lock = .fixed p.issueLevel

/-- A permit record after a grant at a level and a minute (01 R16). -/
def Permit.afterGrant (w : Permit) (level : Nat) (minute : Nat) : Permit :=
  { w with lastEntry := some minute, lock := if w.lock = .learn then .fixed level else w.lock }

/-! ## The roll as its rules give it (06 R104, R106 to R110) -/

/-- Whether the lone condition holds in a room of a check-in interval: the interval is above 0, and the room holds one
contractor record and no staff record (06 R110). -/
def loneIn (interval : Nat) (r : RoomId) (roll : List Presence) : Bool :=
  0 < interval && (roll.filter fun p => p.room == r && p.contractor.isSome).length == 1
    && !(roll.any fun p => p.room == r && p.contractor.isNone)

/-- A contractor part after an evaluation of the lone condition that finds it so, by the table of 06 R110. -/
def ContractorPart.afterLone (lone : Bool) (deadline : Nat) (k : ContractorPart) : ContractorPart :=
  match lone, k.checkIn with
  | true, .absent => { k with checkIn := .armed deadline, checkInOverdue := 0 }
  | true, _ => k
  | false, .absent => k
  | false, _ => { k with checkIn := .absent, checkInOverdue := 0 }

/-- A roll after the lone condition of a room of an interval has been evaluated at a minute (06 R110, 02 R39). -/
def rollEvaluated (interval minute : Nat) (r : RoomId) (roll : List Presence) : List Presence :=
  roll.map fun p =>
    if p.room = r then
      { p with
        contractor := p.contractor.map
          (ContractorPart.afterLone (loneIn interval r roll) (min (minute + interval) 4294967295)) }
    else p

/-- The roll with records added at its end and the lone condition of their room evaluated once, after all of them (06 R104). -/
def State.rollWith (s : State) (r : RoomId) (records : List Presence) : List Presence :=
  rollEvaluated (s.roomSettings r).checkInInterval s.clock.minute r (s.roll ++ records)

/-- The staff credentials of a room that can take a contractor, in roll order, each as often as it has a place free: its ratio
less its linked count, where its roster record is active (06 R107). -/
def State.escortPlaces (s : State) (r : RoomId) : List Nat :=
  (s.roll.filter fun p => p.room == r && p.contractor.isNone).flatMap fun p =>
    List.replicate (match s.staffOf p.credential with
      | some u => if u.active = true then u.ratio - s.linkedCount p.credential else 0
      | none => 0) p.credential

/-- The contractors linked to a staff credential, in roll order (06 R107). -/
def State.linkedTo (s : State) (staff : Nat) : List Nat :=
  (s.roll.filter fun p => p.linkedTo staff).map Presence.credential

/-- The alarm that a departure raises for one who stays (06 R120). -/
def State.rollAlarm (s : State) (r : RoomId) (c : Nat) (detail : AlarmDetail) : Alarm :=
  { minute := s.clock.minute, second := s.clock.second, room := some r, credential := some c, station := none, repeats := 0
    detail := detail }

/-- What a staff record that has left leaves behind. The contractors linked to it take the places of the other staff of the room
in turn; one for whom no place is left loses its link, is UNESCORTED and has its ESCORT_LEFT alarm; and the ENTERED lead the
member of staff held at the room ends (06 R106, R107, 05 R92). -/
def State.afterStaff (s : State) (q : Presence) (cause : DepartureCause) : State :=
  let linked := s.linkedTo q.credential
  let places := s.escortPlaces q.room
  { s with
    roll := s.roll.map fun p =>
      if p.linkedTo q.credential = true then
        let escort := places[linked.idxOf p.credential]?
        { p with
          contractor := p.contractor.map fun k =>
            { k with escort := escort, unescorted := k.unescorted || escort.isNone } }
      else p
    slots := put s.slots q.room (match s.slot q.room with
      | .lead l => if l.staff = q.credential ∧ l.kind = .entered then .empty else .lead l
      | x => x)
    reports := (linked.drop places.length).foldl
      (fun x c => x.offerAlarm (s.rollAlarm q.room c (.escortLeft q.credential cause))) s.reports }

/-- What a contractor record that has left leaves behind: a partner who still names it loses the link and has its PARTNER_LEFT
alarm (06 R108). -/
def State.afterContractor (s : State) (q : Presence) (partner : Option Nat) (cause : DepartureCause) : State :=
  match partner with
  | none => s
  | some b =>
    if (s.roll.any fun p => p.credential == b && p.partnerOf q.credential) = true then
      { s with
        roll := s.roll.map fun p =>
          if p.credential = b then { p with contractor := p.contractor.map fun k => { k with partner := none } } else p
        reports := s.reports.offerAlarm (s.rollAlarm q.room b (.partnerLeft q.credential cause)) }
    else s

/-- A state after the records of a room that a test picks have left as one departure: all are removed, what each leaves behind is
handled in roll order, and the lone condition of the room is evaluated at the end (06 R106). -/
def State.departed (s : State) (r : RoomId) (gone : Presence → Bool) (cause : DepartureCause) : State :=
  let left := fun p : Presence => p.room == r && gone p
  let t := (s.roll.filter left).foldl
    (fun x q => match q.contractor with
      | none => x.afterStaff q cause
      | some k => x.afterContractor q k.partner cause)
    { s with roll := s.roll.filter fun p => !left p }
  { t with roll := rollEvaluated (s.roomSettings r).checkInInterval s.clock.minute r t.roll }

/-! ## Presentations, members and their records (chapters 4 and 5) -/

/-- A contractor's presentation that reaches the issue lock: at the entry reader of a NORMAL room without a fault, with an ACTIVE
permit, the contractor not waiting there and the time being known (04 R61, R65, R66). -/
structure State.reachesLock (s : State) (r : RoomId) (p : Presentation) (w : Permit) : Prop where
  place : s.placeOf (fieldAddress p.reader) = some (r, .entryReader)
  lets : s.lets p
  valid : validCredential p.credential = true
  mode : (s.room r).mode = .normal
  door : (s.door r).state ≠ .fault ∧ (s.door r).state ≠ .faultHold
  noStaff : s.staffOf p.credential = none
  permit : s.permitOf p.credential = some w
  notWaiting : ∀ y, s.slot r = .party y → ∀ m ∈ y.members, m.credential ≠ p.credential
  time : s.clock.timeState ≠ .unset
  active : w.state = .active

/-- A staff member's presentation that passes the zone check: at the entry reader of a room that is not LOCKED and has no fault,
with a roster record that is active and holds the room's zone (04 R61, R62). -/
structure State.reachesStaff (s : State) (r : RoomId) (p : Presentation) (u : Staff) : Prop where
  place : s.placeOf (fieldAddress p.reader) = some (r, .entryReader)
  lets : s.lets p
  valid : validCredential p.credential = true
  mode : (s.room r).mode ≠ .locked
  door : (s.door r).state ≠ .fault ∧ (s.door r).state ≠ .faultHold
  staff : s.staffOf p.credential = some u
  active : u.active = true
  zone : s.inZone r u.zoneMask = true

/-- The presenter as a party member, with the values handed over (05 R83). -/
def Presentation.asMember (p : Presentation) (w : Permit) (c : Chosen) : Member :=
  { credential := p.credential, permitNumber := w.permitNumber, grantIndex := c.index, rule := c.rule, company := w.company
    allowance := c.allowance, issueLevel := p.issueLevel }

/-- A staff member's new presence record (06 R103). -/
def State.staffEntrant (s : State) (r : RoomId) (c : Nat) : Presence :=
  { room := r, credential := c, entryMinute := s.clock.minute, entrySecond := s.clock.second, contractor := none }

/-- A contractor's new presence record, its flags clear and its stay deadline the minute plus the allowance (06 R103, 02 R39). -/
def State.entrant (s : State) (r : RoomId) (m : Member) (escort partner : Option Nat) : Presence :=
  { room := r, credential := m.credential, entryMinute := s.clock.minute, entrySecond := s.clock.second
    contractor := some
      { permitNumber := m.permitNumber, grantIndex := m.grantIndex, rule := m.rule, company := m.company
        stayDeadline := min (s.clock.minute + m.allowance) 4294967295, checkIn := .absent, escort := escort
        partner := partner, overstayRaised := false, checkInOverdue := 0, unescorted := false, withdrawn := false } }

/-- The permit table after the grant notices of members, in their order (01 R16). -/
def State.noticed (s : State) (members : List Member) : List Permit :=
  members.foldl (fun ps m => ps.map fun x =>
    if x.credential = m.credential then x.afterGrant m.issueLevel s.clock.minute else x) s.permits

/-- A lead with a fresh window (05 R82, R91). -/
def State.freshLead (s : State) (staff : Nat) (kind : LeadKind) (level : Nat) : Slot :=
  .lead { staff := staff, kind := kind, issueLevel := level
          window := countdownFrom s.now (s.settings.part.escortWindow * 1000) }

/-- Verdicts offered to the routine queue in their order (04 R78, 05 R101). -/
def Reports.offerVerdicts (q : Reports) (verdicts : List Verdict) : Reports :=
  verdicts.foldl (fun x v => x.offerRoutine (.verdict v)) q

/-- A lead that a contractor cannot use: its staff record is inactive or absent, or it is ENTERED and the member of staff is not
in this room or has no place free (04 R72). -/
def State.cannotUse (s : State) (r : RoomId) (l : Lead) : Prop :=
  ∀ u, s.staffOf l.staff = some u → u.active = true →
    l.kind = .entered ∧ ((∀ x, s.presenceOf l.staff = some x → x.room ≠ r) ∨ u.ratio ≤ s.linkedCount l.staff)

/-- A slot that a contractor has left: its party without the contractor, the others in their order and their window, and an emptied
party cleared (05 R85, R99). -/
def Slot.lessMember (x : Slot) (c : Nat) : Slot :=
  match x with
  | .party y =>
    if ∃ m ∈ y.members, m.credential = c then
      match y.members.filter fun m => m.credential != c with
      | [] => .empty
      | m :: others => .party { y with members := m :: others }
    else .party y
  | other => other

/-- A slot without a WAITING lead of a member of staff (04 R64). -/
def Slot.lessWaiting (x : Slot) (staff : Nat) : Slot :=
  match x with
  | .lead l => if l.kind = .waiting ∧ l.staff = staff then .empty else .lead l
  | other => other

/-- The slots with a change made to that of every room but one (04 R64, R75, 05 R99). -/
def State.slotsElsewhere (s : State) (r : RoomId) (change : Slot → Slot) : Vector Slot 6 :=
  Vector.ofFn fun q => if q = r then s.slot q else change (s.slot q)

/-- The three bounds of a staff completion, `taken` being 1 for a member of staff who needs a place too (05 R88). -/
structure CompletionBounds where
  ratio : Nat
  room : Nat
  roll : Nat
  deriving DecidableEq, Repr

def State.completionBounds (s : State) (r : RoomId) (u : Staff) (taken : Nat) : CompletionBounds :=
  { ratio := u.ratio - s.linkedCount u.credential
    room := (s.roomSettings r).occupancyLimit - s.roomCount r - taken
    roll := 64 - s.roll.length - taken }

/-- How many members a completion takes in (05 R88). -/
def CompletionBounds.count (b : CompletionBounds) (members : Nat) : Nat := min (min b.ratio b.room) (min b.roll members)

/-- The members' verdicts of a staff completion: those within the count are granted with the member of staff as escort, and each
other is denied with the first reason that applies to its position (05 R88, R89). -/
def State.verdictsOfCompletion (s : State) (r : RoomId) (staff : Nat) (b : CompletionBounds) (members : List Member) :
    List Verdict :=
  members.mapIdx fun i m =>
    if i < b.count members.length then
      { s.verdictOfMember r m members.length .grant .none with escort := some staff, allowance := some m.allowance }
    else
      s.verdictOfMember r m members.length .deny
        (if b.ratio ≤ i then .escortRatio else if b.room ≤ i then .roomFull else .rollFull)

/-! ## Doors that a fault or SET ROOM takes (07 R136, R138, R139) -/

/-- The alarm DOOR_FAULT of a room, naming the lock driver at an address (07 R136, R138, R139, R141). -/
def State.faultAlarm (s : State) (r : RoomId) (driver : Nat) (cause : FaultCause) (before : DoorState) : Alarm :=
  { minute := s.clock.minute, second := s.clock.second, room := some r, credential := none, station := some driver
    repeats := 0, detail := .doorFault cause before }

/-- A state in which a room's door has entered FAULT with a cause: a program has ended with the end actions, the held timer has
stopped, DOOR_FAULT is raised, every party member is denied DOOR_FAULT in member order, and the slot is cleared (07 R136, R138,
05 R98). -/
def State.doorFaulted (s : State) (r : RoomId) (cause : FaultCause) : State :=
  let d := s.door r
  let alarmed := s.reports.offerAlarm (s.faultAlarm r (s.roomSettings r).lockDriver cause d.state)
  { s with
    doors := put s.doors r
      { state := .fault
        image := if d.program = none then d.image else { unlocked := false, sounder := false, beacon := false, shunt := false }
        program := none
        waitTimer := if d.program = none then d.waitTimer else none
        heldTimer := none
        cause := some cause }
    slots := put s.slots r .empty
    rooms := match s.slot r with
      | .party y => if y.members = [] then s.rooms else s.roomsShowing r .entry .denied
      | _ => s.rooms
    reports := match s.slot r with
      | .party y => alarmed.offerVerdicts (y.members.map fun m => s.verdictOfMember r m y.members.length .deny .doorFault)
      | _ => alarmed }

/-- The door of a room just enabled, or whose lock driver was just changed: nothing runs, and it is SECURE, or in FAULT with cause
OFFLINE where its driver is held OFFLINE (07 R139). -/
def freshDoor (driverOffline : Bool) : Door :=
  { state := if driverOffline = true then .fault else .secure
    image := { unlocked := false, sounder := false, beacon := false, shunt := false }
    program := none, waitTimer := none, heldTimer := none
    cause := if driverOffline = true then some .offline else none }

/-! ## Frames on the field line that are bad replies (08 R147, R149, 12 R187) -/

/-- A reply's payload that is well formed for a station of a kind: a body NONE, a reader's PRESENTATION or a lock driver's EVENTS,
and a carry-up part that fills the rest exactly (08 R149, 12 R187). -/
def wellFormedReply (kind : StationKind) (payload : List Byte) : Prop :=
  ∃ body up : List Byte, up.length ≤ 160 ∧
    (body = [0] ∨
     (kind = .reader ∧ ∃ (credential level : Nat) (checkIn : Bool), credential < 4294967296 ∧ level ≤ 15 ∧
       body = [1] ++ bytesOf 4 credential ++ bytesOf 1 level ++ bytesOf 1 (yesNo checkIn)) ∨
     (kind = .lockDriver ∧ ∃ events : List DriverEvent, events.length ≤ 4 ∧
       body = [2] ++ bytesOf 1 events.length ++ (events.map fun e => bytesOf 1 e.code).flatten)) ∧
    payload = body ++ (if up = [] then [0] else 1 :: BitVec.ofNat 8 up.length :: up)

/-- The bytes of a frame that ends a visit to a station as a bad reply: its length is over 200, its CRC fails, or it is for the
part and has another source, another kind or malformed contents (08 R147). -/
def badFieldFrame (a : StationId) (kind : StationKind) (bytes : List Byte) : Prop :=
  (∃ destination source code length : Byte, 200 < length.toNat ∧ bytes = [0xA7, destination, source, code, length]) ∨
  (∃ f : Frame, f.destination < 256 ∧ f.source < 256 ∧ f.kind < 256 ∧ f.payload.length ≤ 200 ∧
    ((∃ sent : List Byte, sent.length = 2 ∧ sent ≠ bytesOf 2 (crc f.covered).toNat ∧
        bytes = [0xA7] ++ f.covered ++ sent) ∨
     (f.destination = 0 ∧ (f.source ≠ fieldAddress a ∨ f.kind ≠ 4 ∨ ¬ wellFormedReply kind f.payload) ∧ bytes = f.bytes)))

end Sys2Proof.Machine
end

