-- ==== Sys2Proof/Certificates/Slice0/Obligations.lean ====
section
/-! DEFINITION. The statements for the provers. Each names in its docstring the rule of spec/ it formalises, or says that it is
the model's own choice and names the log entry. -/

open Sys2Proof Sys2Proof.Machine

/-! ## The queue of commands -/

/-- A step takes the command at the front of the queue and runs its meaning on the state with the queue's rest; on an empty
queue the block idles. The queue is the model's own (log 6). -/
def Obligations.StepRunsFrontCommand : Prop :=
  (∀ (c : Instr) (rest : List Instr) (s : State),
    s.pending = c :: rest → step s = exec c { s with pending := rest }) ∧
  (∀ s : State, s.pending = [] → step s = .next s)

/-! ## Reset -/

/-- What a reset leaves (01 R23, 02 R24, 03 R41, 05 R81, 06 R102, 07 R122, 08 R142, 09 R154, R159, R161, 10 R171 to R174),
and that the invariants of Safety hold there. That the state is one of STARTING is log 3. -/
def Obligations.ResetLeaves : Prop :=
  State.reset.permits = [] ∧ State.reset.roster = [] ∧ State.reset.roll = [] ∧
  State.reset.clock.minute = 0 ∧ State.reset.clock.second = 0 ∧ State.reset.clock.timeState = .unset ∧
  State.reset.clock.sinceTime = 0 ∧ State.reset.clock.lastTime = none ∧
  (∀ r, State.reset.room r = { zoneIndex := 0, mode := .normal, rollState := .uncertain, entryOverlay := none,
                               exitOverlay := none }) ∧
  (∀ r, State.reset.entryImage r = .idle ∧ State.reset.exitImage r = .idle) ∧
  (∀ r, State.reset.slot r = .empty) ∧
  (∀ r, State.reset.door r = { state := .secure,
                               image := { unlocked := false, sounder := false, beacon := false, shunt := false },
                               program := none, waitTimer := none, heldTimer := none, cause := none }) ∧
  (∀ a, State.reset.station a = { online := .unknown, missed := 0 }) ∧
  State.reset.field.visit = none ∧ State.reset.field.carryDown = [] ∧
  State.reset.trunk.address = 254 ∧ State.reset.trunk.link = .online ∧ State.reset.trunk.silentSince = none ∧
  State.reset.trunk.commands = [] ∧ State.reset.trunk.refusals = 0 ∧
  State.reset.reports = { alarms := [], answers := [], routine := [], overflow := false, discards := 0 } ∧
  (∀ a, look State.reset.lastSeen a = none) ∧
  State.reset.stationsSound ∧ State.reset.doorsSound ∧ State.reset.queuesSound ∧ State.reset.clock.sound ∧
  State.reset.tablesSound ∧ State.reset.peopleSound ∧ State.reset.onePlace ∧ State.reset.settingsSound ∧
  State.reset.copySound

/-! ## Invariants that every step keeps -/

/-- Every step keeps: a station's missed count never exceeds 3, and a station is OFFLINE exactly when its count is 3 (08
R142). -/
def Obligations.StationsKeepTheirCount : Prop :=
  ∀ s t : State, s.stationsSound → step s = .next t → t.stationsSound

/-- Every step keeps the law of the doors (07 R123): the lock is UNLOCKED only while a program runs, and the rest of
`Door.sound`. -/
def Obligations.DoorsKeepTheirLaw : Prop :=
  ∀ s t : State, s.doorsSound → step s = .next t → t.doorsSound

/-- Every step keeps the bounds of the alarm, answer, routine, command and carry-down queues and of their counts, at most one
alarm of each key, and the answer place of a write in flight (10 R171 to R174, 09 R161, R163, 08 R151). -/
def Obligations.QueuesKeepTheirBounds : Prop :=
  ∀ s t : State, s.queuesSound → step s = .next t → t.queuesSound

/-- Every step keeps the Estate Clock's values in their ranges and its time state in step with its count (02 R25, R26,
R29). -/
def Obligations.ClockKeepsItsRanges : Prop :=
  ∀ s t : State, s.clock.sound → step s = .next t → t.clock.sound

/-- Every step keeps the two tables apart, one record for each credential, and the cells of permit memory used once each, none
of them retired (01 R1, R3, R4, R5). -/
def Obligations.TablesKeepTheirCells : Prop :=
  ∀ s t : State, s.tablesSound → step s = .next t → t.tablesSound

/-- Every step keeps the roll at 64 records at most and a party at 1 to 4 members (06 R102, 05 R81). -/
def Obligations.PeopleKeepTheirBounds : Prop :=
  ∀ s t : State, s.peopleSound → step s = .next t → t.peopleSound

/-- Every step keeps each person in one place: one presence record for a credential, no party member and no WAITING lead on
the roll, no member in two parties (01 R14, 05 R85, R99, 04 R64, R70). -/
def Obligations.EachPersonInOnePlace : Prop :=
  ∀ s t : State, s.onePlace → step s = .next t → t.onePlace

/-- Every step keeps the settings in force, and the store's copy of a write in flight, such that the settings load would take
them as an image: the ranges and the uniqueness of addresses among enabled rooms (03 R45, 11 R180). -/
def Obligations.SettingsStayValid : Prop :=
  ∀ s t : State, s.settingsSound → s.copySound → step s = .next t → t.settingsSound ∧ t.copySound

/-! ## Whole-machine rules -/

/-- While the part runs on, no command changes the serial number, the retired-cell map or the load results (09 R154, 11 R181,
R180); the trunk address changes by ASSIGN ADDRESS alone (09 R154); a setting changes by SET ROOM, SET PROGRAM, SET STATION
or SET PART alone, and a room mode by SET ROOM MODE or SET ROOM alone (03 R41, R49). -/
def Obligations.WhatEachCommandMayChange : Prop :=
  ∀ (c : Instr) (s t : State), s.phase = .running → t.phase = .running → exec c s = .next t →
    t.serial = s.serial ∧ t.retired = s.retired ∧ t.loadResult = s.loadResult ∧
    (c ≠ .assignAddress → t.trunk.address = s.trunk.address) ∧
    (c ≠ .setRoom → c ≠ .setProgram → c ≠ .setStation → c ≠ .setPart → t.settings = s.settings) ∧
    (c ≠ .setRoom → c ≠ .setRoomMode → ∀ r, (t.room r).mode = (s.room r).mode)

/-! ## Frames and the settings image -/

/-- A frame in its envelope is received whole as what was sent, whatever stands before its start byte and after its end, as
long as no earlier byte is a start byte (12 R184, 09 R156). -/
def Obligations.FramesAreReceivedAsSent : Prop :=
  ∀ (f : Frame) (before after : List Byte),
    f.destination < 256 → f.source < 256 → f.kind < 256 → f.payload.length ≤ 200 → (∀ b ∈ before, b ≠ 0xA7#8) →
    receive (before ++ f.bytes ++ after) = .whole f

/-- A settings image that is written whole is loaded at the next power-on reset, and gives back the settings in force and the
trunk address (09 R164, 11 R180, R182). `settingsSound` is an invariant of its own statement. -/
def Obligations.SavedSettingsComeBack : Prop :=
  ∀ (s : State) (tag : Nat) (m1 m2 m3 : Nat) (failing : List Nat) (cut : WriteCut),
    s.phase = .running → s.settingsSound → s.executor = .saving tag (imageOf s.settings s.trunk.address) →
    ∃ a b c d : State,
      exec (.saveWriteEnd m1 .complete) s = .next a ∧ exec (.powerOnReset cut) a = .next b ∧
      exec (.selfTestEnd m2 failing) b = .next c ∧ exec (.settingsLoadEnd m3 true) c = .next d ∧
      d.phase = .running ∧ d.settings = s.settings ∧ d.trunk.address = s.trunk.address ∧
      d.loadResult = { memoryPresent := true, imageValid := true }

/-- A save cut short by the loss of the supply (11 R183): before the clearing has completed the old image is left, after it
and before the new signature none, and during the read-back the new image, as the next start-up finds them. During the second
clearing, after a read-back that differed, what the memory holds is left under its signature, to be judged by its values, or no
image where that clearing has completed. -/
def Obligations.SaveCutShort : Prop :=
  ∀ (s : State) (tag : Nat) (copy : SettingsImage) (m2 m3 : Nat) (failing : List Nat) (cut : WriteCut),
    s.executor = .saving tag copy →
    ∃ a b c d : State,
      exec (.powerLost cut) s = .next a ∧ exec (.powerOnReset .beforeClear) a = .next b ∧
      exec (.selfTestEnd m2 failing) b = .next c ∧ exec (.settingsLoadEnd m3 true) c = .next d ∧
      (cut = .beforeClear → d.memory = s.memory) ∧
      (cut = .beforeSignature → d.memory.signature = false ∧ d.settings = Settings.default ∧ d.trunk.address = 254 ∧
        d.loadResult.imageValid = false) ∧
      (cut = .afterSignature → imageGood copy = true → d.settings = copy.settings ∧ d.loadResult.imageValid = true) ∧
      (∀ found, cut = .beforeSecondClear found →
        d.memory = { signature := true, image := some found } ∧
        (imageGood found = true → d.settings = found.settings ∧ d.loadResult.imageValid = true) ∧
        (imageGood found = false → d.settings = Settings.default ∧ d.trunk.address = 254 ∧
          d.loadResult.imageValid = false)) ∧
      (cut = .afterSecondClear → d.memory.signature = false ∧ d.settings = Settings.default ∧ d.trunk.address = 254 ∧
        d.loadResult.imageValid = false)

/-! ## Start-up -/

/-- A power-on reset enters STARTING at the self-test with every other item at its value for a reset; only the configuration
memory, the serial number and the model's queue stay (11 R177, R183). That in STARTING the settings stand at their defaults and
the load results at no is the model's choice (log 3), and that every other item takes its value already at the reset is log 29.
The loss of the supply stops the part where it stands (log 26). -/
def Obligations.PowerOnResetStarts : Prop :=
  (∀ (cut : WriteCut) (s : State), exec (.powerOnReset cut) s
    = .next { State.reset with pending := s.pending, serial := s.serial, memory := s.memoryAtCut cut }) ∧
  (∀ (cut : WriteCut) (s : State), exec (.powerLost cut) s
    = .next { s with
        phase := .inReset, memory := s.memoryAtCut cut,
        executor := if s.executor.isSaving = true then .free else s.executor })

/-- The self-test: single cells are retired up to two in a half, a third retires the half whole, and beside a half retired whole
a half with any failing cell is retired whole too; the store state and the retired count follow (11 R178, R179). -/
def Obligations.SelfTestRetiresCells : Prop :=
  ∀ (kind : ResetKind) (moment : Nat) (failing : List Nat) (s : State), s.phase = .selfTest kind →
    ∃ t : State, exec (.selfTestEnd moment failing) s = .next t ∧
      t = { s with now := max s.now moment, phase := .settingsLoad kind, retired := t.retired } ∧
      (let low := (List.range' 0 1024).filter fun c => failing.contains c
       let high := (List.range' 1024 1024).filter fun c => failing.contains c
       let lowWhole := 3 ≤ low.length ∨ (3 ≤ high.length ∧ 1 ≤ low.length)
       let highWhole := 3 ≤ high.length ∨ (3 ≤ low.length ∧ 1 ≤ high.length)
       (lowWhole → t.retired.low = { cells := [], whole := true }) ∧
       (¬ lowWhole → t.retired.low = { cells := low, whole := false }) ∧
       (highWhole → t.retired.high = { cells := [], whole := true }) ∧
       (¬ highWhole → t.retired.high = { cells := high, whole := false }) ∧
       (lowWhole ∧ highWhole → t.retired.store = .failed ∧ t.retired.count = 2048) ∧
       ((lowWhole ∧ ¬ highWhole) ∨ (highWhole ∧ ¬ lowWhole) → t.retired.store = .half ∧ t.retired.count = 1024) ∧
       (¬ lowWhole ∧ ¬ highWhole →
         t.retired.count = low.length + high.length ∧
         t.retired.store = if low = [] ∧ high = [] then .whole else .reduced))

/-- The settings load and the entry into RUNNING: a valid image is loaded whole, an image not valid in no part; every other item
takes its value for a reset, the first station is chosen, the clock and the silence timer start, and the STARTUP alarm is the
one item queued (11 R180, R181). -/
def Obligations.SettingsLoadEntersRunning : Prop :=
  ∀ (kind : ResetKind) (moment : Nat) (answers : Bool) (s : State), s.phase = .settingsLoad kind →
    let image := validImage s.memory answers
    let settings := match image with
      | some i => i.settings
      | none => Settings.default
    let now := max s.now moment
    (∀ i, image = some i ↔
      answers = true ∧ s.memory.signature = true ∧ s.memory.image = some i ∧ imageGood i = true) ∧
    exec (.settingsLoadEnd moment answers) s = .next
      { State.reset with
        pending := s.pending
        phase := .running
        now := now
        serial := s.serial
        memory := s.memory
        retired := s.retired
        settings := settings
        loadResult := { memoryPresent := answers, imageValid := image.isSome }
        clock := { minute := 0, second := 0, timeState := .unset, sinceTime := 0, lastTime := none, nextCount := now + 1000 }
        rooms := settings.rooms.map fun r =>
          { zoneIndex := zoneIndexOf settings.part r.roomCode, mode := .normal, rollState := .uncertain,
            entryOverlay := none, exitOverlay := none }
        field := { visit := none, lastVisited := none, carryDown := [],
                   chosen := allStations.find? fun a => (look settings.stations a).enabled }
        trunk :=
          { address := match kind with
              | .restart => s.trunk.address
              | .powerOn => (image.bind SettingsImage.address).getD 254
            link := .online
            silenceTimer := some (countdownFrom now (settings.part.trunkSilence * 1000))
            silentSince := none, commands := [], refusals := 0, reply := none }
        reports :=
          { alarms := [{ minute := 0, second := 0, room := none, credential := none, station := none, repeats := 0,
                         detail := .startUp s.retired.store s.retired.count }]
            answers := [], routine := [], overflow := false, discards := 0 } }

/-- RESTART is answered DONE and the executor takes no further request; when the reply that carries the answer has been sent,
the part resets into STARTING and keeps its trunk address (09 R168). The two commands REPLY_SENT and RESTART_RESET share that
moment (log 22). That in STARTING the settings stand at their defaults and the load results at no is the model's choice (log 3),
and that every other item takes its value already at the reset is log 29. -/
def Obligations.RestartThenReset : Prop :=
  (∀ (tag : Nat) (rest : List Request) (s : State), s.atHead tag 25 [] rest →
    exec .restart s = .next ({ s.taken rest with executor := .restarting }.plusAnswer tag 25 .done .nothing)) ∧
  (∀ (moment : Nat) (sent : SendingReply) (s : State), s.phase = .running → s.trunk.reply = some sent →
    exec (.replySent moment) s = .next
      { s with
        now := max s.now moment, trunk := { s.trunk with reply := none },
        executor := if sent.carriesRestart = true then .restartSent else s.executor }) ∧
  (∀ s : State, s.phase = .running → s.executor = .restartSent →
    exec .restartReset s = .next
      { State.reset with
        pending := s.pending, serial := s.serial, memory := s.memory, phase := .selfTest .restart,
        trunk := { State.reset.trunk with address := s.trunk.address } })

/-! ## The trunk line -/

/-- A TIME frame, broadcast or to the part's assigned address, sets the clock; one whose second is 60 or more changes nothing
(02 R26, 09 R157, 12 R185). -/
def Obligations.TimeFrameSetsClock : Prop :=
  ∀ (moment minute second destination : Nat) (s : State), s.listening → minute < 4294967296 → second < 256 →
    (destination = 0 ∨ (destination = s.trunk.address ∧ assignedAddress destination)) →
    let bytes := (trunkFrame destination 1 (bytesOf 4 minute ++ bytesOf 1 second)).bytes
    (second ≤ 59 → exec (.timeFrame moment bytes) s = .next
      { s with
        now := max s.now moment
        clock := { minute := minute, second := second, timeState := .set, sinceTime := 0, lastTime := some minute,
                   nextCount := max s.now moment + 1000 } }) ∧
    (60 ≤ second → exec (.timeFrame moment bytes) s = .next s)

/-- A COMMAND frame for the part restarts the silence timer and enters the command queue, or is dropped and counted when it
holds 4; an unassigned part takes ASSIGN ADDRESS with its own serial number alone (09 R155, R157, R159, R161). -/
def Obligations.CommandEntersQueue : Prop :=
  ∀ (moment : Nat) (tag name : Byte) (body : List Byte) (s : State), s.listening → body.length ≤ 198 →
    let frame := (trunkFrame s.trunk.address 2 (tag :: name :: body)).bytes
    let timer := countdownFrom (max s.now moment) (s.settings.part.trunkSilence * 1000)
    let taken := assignedAddress s.trunk.address ∨
      (s.trunk.address = 254 ∧ name = 26 ∧ 4 ≤ body.length ∧ numberOf (body.take 4) = s.serial)
    (taken → s.trunk.commands.length < 4 → exec (.commandFrame moment frame) s = .next
      { s with
        now := max s.now moment
        trunk := { s.trunk with
          silenceTimer := some timer
          commands := s.trunk.commands ++ [{ tag := tag.toNat, name := name.toNat, body := body }] } }) ∧
    (taken → 4 ≤ s.trunk.commands.length → exec (.commandFrame moment frame) s = .next
      { s with
        now := max s.now moment
        trunk := { s.trunk with silenceTimer := some timer, refusals := min (s.trunk.refusals + 1) 255 } }) ∧
    (s.trunk.address = 254 → ¬ taken → exec (.commandFrame moment frame) s = .next s)

/-- A POLL on an ONLINE link is answered with the head of the alarm queue, else of the answer queue, else of the routine queue
unless the hold flag is set, else EMPTY; the item leaves its queue, the header is composed after it, and the two counts
become 0 (09 R158, 10 R169, R170). -/
def Obligations.PollCarriesTheFirstItem : Prop :=
  ∀ (moment : Nat) (hold : Bool) (s : State), s.listening → assignedAddress s.trunk.address → s.trunk.link = .online →
    let frame := (trunkFrame s.trunk.address 3 [if hold then 1 else 0]).bytes
    let replied := fun (item : ReplyItem) (restart : Bool) (alarms : List Alarm) (answers : List Answer)
        (routine : List RoutineItem) =>
      { s with
        now := max s.now moment
        trunk := { s.trunk with
          silenceTimer := some (countdownFrom (max s.now moment) (s.settings.part.trunkSilence * 1000))
          refusals := 0
          reply := some
            { frame := (replyFrame s.trunk.address
                { timeState := s.clock.timeState, store := s.retired.store, silent := false,
                  overflow := s.reports.overflow, discards := s.reports.discards, refusals := s.trunk.refusals,
                  alarms := alarms.length, routine := routine.length } item).bytes
              carriesRestart := restart } }
        reports := { s.reports with alarms := alarms, answers := answers, routine := routine, discards := 0 } }
    (∀ a rest, s.reports.alarms = a :: rest → exec (.poll moment frame) s
      = .next (replied (.alarm a) false rest s.reports.answers s.reports.routine)) ∧
    (∀ a rest, s.reports.alarms = [] → s.reports.answers = a :: rest → exec (.poll moment frame) s
      = .next (replied (.answer a) (a.name == 25 && a.status == .done) [] rest s.reports.routine)) ∧
    (∀ i rest, s.reports.alarms = [] → s.reports.answers = [] → hold = false → s.reports.routine = i :: rest →
      exec (.poll moment frame) s = .next (replied (.routine i) false [] [] rest)) ∧
    (s.reports.alarms = [] → s.reports.answers = [] → (hold = true ∨ s.reports.routine = []) →
      exec (.poll moment frame) s = .next (replied .empty false [] [] s.reports.routine))

/-- A POLL on a SILENT link sets it ONLINE and raises LINK_RESTORED with the whole seconds of silence, held at 65,535: the
reply carries it where the alarm queue was empty, and it follows the older alarms otherwise (09 R160). -/
def Obligations.PollRestoresTheLink : Prop :=
  ∀ (moment since : Nat) (s : State), s.listening → assignedAddress s.trunk.address → s.trunk.link = .silent →
    s.trunk.silentSince = some since →
    let restored : Alarm :=
      { minute := s.clock.minute, second := s.clock.second, room := none, credential := none, station := none, repeats := 0,
        detail := .linkRestored (min ((max s.now moment - since) / 1000) 65535) }
    ∃ t : State, exec (.poll moment (trunkFrame s.trunk.address 3 []).bytes) s = .next t ∧
      t = { s with now := max s.now moment, trunk := t.trunk, reports := t.reports } ∧
      t.trunk.link = .online ∧ t.trunk.silentSince = none ∧ t.trunk.address = s.trunk.address ∧
      t.trunk.commands = s.trunk.commands ∧ t.trunk.refusals = 0 ∧
      t.trunk.silenceTimer = some (countdownFrom (max s.now moment) (s.settings.part.trunkSilence * 1000)) ∧
      t.reports.answers = s.reports.answers ∧ t.reports.routine = s.reports.routine ∧ t.reports.discards = 0 ∧
      (s.reports.alarms = [] →
        t.reports.alarms = [] ∧
        t.trunk.reply = some
          { frame := (replyFrame s.trunk.address
              { timeState := s.clock.timeState, store := s.retired.store, silent := true, overflow := s.reports.overflow,
                discards := s.reports.discards, refusals := s.trunk.refusals, alarms := 0,
                routine := s.reports.routine.length } (.alarm restored)).bytes
            carriesRestart := false }) ∧
      (∀ a rest, s.reports.alarms = a :: rest → s.reports.alarms.length < 16 →
        (∀ b ∈ s.reports.alarms, b.key ≠ restored.key) → t.reports.alarms = rest ++ [restored])

/-- The frames that come to nothing: one abandoned by a gap, one abandoned by its length or its CRC, one from another source
than the head-end, and a POLL to 254, which an unassigned part ignores (09 R156, R157). -/
def Obligations.FramesThatComeToNothing : Prop :=
  (∀ (bytes : List Byte) (s : State), exec (.trunkGapAbandon bytes) s = .next s ∧
    exec (.trunkFrameDiscarded bytes) s = .next s) ∧
  (∀ (moment : Nat) (f : Frame) (s : State), f.destination < 256 → f.source < 256 → f.source ≠ 255 → f.kind < 256 →
    f.payload.length ≤ 200 →
    exec (.timeFrame moment f.bytes) s = .next s ∧ exec (.commandFrame moment f.bytes) s = .next s ∧
    exec (.poll moment f.bytes) s = .next s) ∧
  (∀ (moment : Nat) (payload : List Byte) (s : State), s.trunk.address = 254 → payload.length ≤ 200 →
    exec (.poll moment (trunkFrame 254 3 payload).bytes) s = .next s)

/-! ## Requests: refusals that every one of them shares -/

/-- A request whose name the part does not know is answered BAD_VALUE naming the request-name field with the name as received,
and a request that names an invalid credential, or is too short to hold one, is answered BAD_VALUE naming its first field;
nothing else changes (09 R162; that the data hold the name: the model's choice, log 51).
While the answer queue holds 4 answers, while a write is in flight and after a RESTART the executor
waits, and no request changes anything (09 R163, R164, R168; log 7). -/
def Obligations.RequestsThatChangeNothing : Prop :=
  (∀ (tag name : Nat) (body : List Byte) (rest : List Request) (s : State), s.atHead tag name body rest →
    (name = 0 ∨ 27 ≤ name) →
    exec .unknownRequest s = .next ((s.taken rest).plusAnswer tag name .badValue (.unknownName name))) ∧
  (∀ (tag : Nat) (body : List Byte) (rest : List Request) (s : State),
    (body.length < 4 ∨ body = bytesOf 4 0 ∨ body = bytesOf 4 4294967295) →
    (s.atHead tag 2 body rest →
      exec .dropPermit s = .next ((s.taken rest).plusAnswer tag 2 .badValue (.badField 1))) ∧
    (s.atHead tag 3 body rest →
      exec .suspendPermit s = .next ((s.taken rest).plusAnswer tag 3 .badValue (.badField 1))) ∧
    (s.atHead tag 5 body rest →
      exec .revokePermit s = .next ((s.taken rest).plusAnswer tag 5 .badValue (.badField 1))) ∧
    (s.atHead tag 6 body rest →
      exec .readPermit s = .next ((s.taken rest).plusAnswer tag 6 .badValue (.badField 1))) ∧
    (s.atHead tag 9 body rest →
      exec .dropEscort s = .next ((s.taken rest).plusAnswer tag 9 .badValue (.badField 1))) ∧
    (s.atHead tag 10 body rest →
      exec .readEscort s = .next ((s.taken rest).plusAnswer tag 10 .badValue (.badField 1)))) ∧
  (∀ (c : Instr) (s : State),
     c ∈ [.unknownRequest, .loadPermit, .dropPermit, .suspendPermit, .resumePermit, .revokePermit, .readPermit,
       .purgePermits, .loadEscort, .dropEscort, .readEscort, .clearTables, .setRoom, .setRoomMode, .readRoom, .reconcileRoom,
       .setProgram, .cancelRelease, .resumeRoom, .remoteRelease, .setStation, .setPart, .carry, .readStatus,
       .saveSettings true, .saveSettings false, .restart, .assignAddress] →
     (4 ≤ s.reports.answers.length ∨ s.executor ≠ .free ∨ s.phase ≠ .running ∨ s.trunk.commands = []) →
     exec c s = .next s)

/-! ## Requests on the tables -/

/-- LOAD PERMIT for a credential in neither table inserts an ACTIVE record in the lowest free cells, or is answered NO_ROOM with
the cells needed and free where they do not suffice (01 R5, R7, R8). -/
def Obligations.LoadPermitInserts : Prop :=
  ∀ (tag c n company code level : Nat) (grants : List Grant) (rest : List Request) (s : State),
    LoadPermitInRange c n company code level grants → code ≤ 2 →
    s.atHead tag 1 (loadPermitBytes c n company code level grants) rest →
    s.permitOf c = none → s.staffOf c = none →
    let free := freeCells s.retired s.permits
    (grants.length + 1 ≤ free.length →
      ∃ t : State, exec .loadPermit s = .next (t.plusAnswer tag 1 .done
          (.permitLoaded .inserted (grants.length + 1) (free.length - (grants.length + 1)))) ∧
        t = { s.taken rest with permits := t.permits } ∧
        t.permitOf c = some
          { permitNumber := n, credential := c, company := company, state := .active,
            lock := if code = 0 then .off else if code = 1 then .learn else .fixed level,
            grants := grants, lastEntry := none, headerCell := free.headD 0,
            grantCells := (free.drop 1).take grants.length } ∧
        (∀ d, d ≠ c → t.permitOf d = s.permitOf d)) ∧
    (free.length < grants.length + 1 →
      exec .loadPermit s = .next ((s.taken rest).plusAnswer tag 1 .noRoom
        (.cellsShort (grants.length + 1) free.length)))

/-- LOAD PERMIT for a credential that has a permit record replaces its terms, its old cells being freed first; the state and
the last entry are kept, and the issue lock too where the request says KEEP (01 R9). One for a credential of the Escort Roster is
answered CONFLICT and changes nothing (01 R4). -/
def Obligations.LoadPermitReplaces : Prop :=
  ∀ (tag c n company code level : Nat) (grants : List Grant) (rest : List Request) (s : State),
    LoadPermitInRange c n company code level grants →
    s.atHead tag 1 (loadPermitBytes c n company code level grants) rest →
    (∀ old, s.permitOf c = some old → s.staffOf c = none →
      let free := freeCells s.retired (s.permits.filter fun p => p.credential != c)
      (grants.length + 1 ≤ free.length →
        ∃ (t : State) (left : Nat), exec .loadPermit s = .next (t.plusAnswer tag 1 .done
            (.permitLoaded .replaced (grants.length + 1) left)) ∧
          t = { s.taken rest with permits := t.permits } ∧ left = (freeCells t.retired t.permits).length ∧
          t.permitOf c = some
            { old with
              permitNumber := n, company := company, grants := grants
              lock := if code = 0 then .off else if code = 1 then .learn else if code = 2 then .fixed level else old.lock
              headerCell := free.headD 0, grantCells := (free.drop 1).take grants.length } ∧
          (∀ d, d ≠ c → t.permitOf d = s.permitOf d)) ∧
      (free.length < grants.length + 1 →
        exec .loadPermit s = .next ((s.taken rest).plusAnswer tag 1 .noRoom
          (.cellsShort (grants.length + 1) free.length)))) ∧
    (∀ u, s.permitOf c = none → code ≤ 2 → s.staffOf c = some u →
      exec .loadPermit s = .next ((s.taken rest).plusAnswer tag 1 .conflict .heldByRoster))

/-- SUSPEND PERMIT and REVOKE PERMIT for a holder who is on no roll and in no party: the record's state changes and nothing
else does; where the state asked for stands already, or the permit is REVOKED, no record changes (01 R11, R13). -/
def Obligations.SuspendAndRevokeOutside : Prop :=
  ∀ (tag : Nat) (c : Nat) (p : Permit) (rest : List Request) (s : State), validCredential c = true →
    s.permitOf c = some p → s.outside c →
    let changed : PermitState → State := fun x =>
      { s.taken rest with
        permits := s.permits.map fun q : Permit => if q.credential = c then { q with state := x } else q }
    (s.atHead tag 3 (bytesOf 4 c) rest → exec .suspendPermit s = .next
      (match p.state with
      | .active => (changed .suspended).plusAnswer tag 3 .done (.previousPermitState .active)
      | .suspended => (s.taken rest).plusAnswer tag 3 .done (.previousPermitState .suspended)
      | .revoked => (s.taken rest).plusAnswer tag 3 .notAllowed .nothing)) ∧
    (s.atHead tag 5 (bytesOf 4 c) rest → exec .revokePermit s = .next
      (match p.state with
      | .revoked => (s.taken rest).plusAnswer tag 5 .done (.previousPermitState .revoked)
      | old => (changed .revoked).plusAnswer tag 5 .done (.previousPermitState old)))

/-- A withdrawal, by SUSPEND PERMIT of an ACTIVE permit or by REVOKE PERMIT of one that is not REVOKED, reaches its holder, and the
permit takes the new state. One inside keeps the presence record, marked WITHDRAWN, and PERMIT_WITHDRAWN_INSIDE is raised. One in a
party leaves it with one denial, which carries the party size before; the others keep their order and their window, and an empty
party is cleared. Nothing else changes, and the answer gives the previous state (01 R11, R13, R14, 05 R96, 06 R115). -/
def Obligations.WithdrawalReachesTheHolder : Prop :=
  ∀ (tag : Nat) (c : Nat) (p : Permit) (rest : List Request) (s : State), validCredential c = true →
    s.permitOf c = some p → s.onePlace →
    ∀ (request : Instr) (name : Nat) (new : PermitState) (reason : Reason),
      (request = .suspendPermit ∧ name = 3 ∧ new = .suspended ∧ reason = .suspended ∧ p.state = .active) ∨
        (request = .revokePermit ∧ name = 5 ∧ new = .revoked ∧ reason = .revoked ∧ p.state ≠ .revoked) →
      s.atHead tag name (bytesOf 4 c) rest →
      let permits := s.permits.map fun x : Permit => if x.credential = c then { x with state := new } else x
      (∀ q k, s.presenceOf c = some q → q.contractor = some k →
        exec request s = .next
          (({ s.taken rest with
              permits := permits
              roll := s.roll.map fun x : Presence =>
                if x.credential = c then { x with contractor := x.contractor.map fun y => { y with withdrawn := true } }
                else x
              reports := s.reports.offerAlarm
                (s.rollAlarm q.room c (.permitWithdrawnInside new k.permitNumber k.stayDeadline)) } : State).plusAnswer
            tag name .done (.previousPermitState p.state))) ∧
      (∀ r y m, s.slot r = .party y → m ∈ y.members → m.credential = c →
        exec request s = .next
          (({ s.taken rest with
              permits := permits
              slots := put s.slots r (match y.members.filter fun n : Member => n.credential != c with
                | [] => .empty
                | n :: others => .party { y with members := n :: others })
              rooms := s.roomsShowing r .entry .denied
              reports := s.reports.offerRoutine
                (.verdict (s.verdictOfMember r m y.members.length .deny reason)) } : State).plusAnswer
            tag name .done (.previousPermitState p.state)))

/-- RESUME PERMIT (01 R12): the state becomes ACTIVE from SUSPENDED, stays ACTIVE, and stays REVOKED with NOT_ALLOWED; an invalid
credential is BAD_VALUE and one without a record NOT_FOUND. No notice is sent: nothing but the record and the answer changes. -/
def Obligations.ResumePermitRestores : Prop :=
  ∀ (tag c : Nat) (rest : List Request) (s : State), c < 4294967296 → s.atHead tag 4 (bytesOf 4 c) rest →
    (c = 0 ∨ c = 4294967295 →
      exec .resumePermit s = .next ((s.taken rest).plusAnswer tag 4 .badValue (.badField 1))) ∧
    (1 ≤ c → c ≤ 4294967294 →
      (s.permitOf c = none →
        exec .resumePermit s = .next ((s.taken rest).plusAnswer tag 4 .notFound .nothing)) ∧
      (∀ p, s.permitOf c = some p → exec .resumePermit s = .next
        (match p.state with
        | .suspended =>
          ({ s.taken rest with
              permits := s.permits.map fun q : Permit => if q.credential = c then { q with state := .active } else q } :
            State).plusAnswer tag 4 .done (.previousPermitState .suspended)
        | .active => (s.taken rest).plusAnswer tag 4 .done (.previousPermitState .active)
        | .revoked => (s.taken rest).plusAnswer tag 4 .notAllowed .nothing)))

/-- The READ requests leave the command queue and add one answer, and change nothing else but that READ STATUS clears the
alarm-overflow flag it has reported: READ PERMIT and READ ESCORT answer with the record and the position, READ ROOM with the room's
items and up to four of its records from the one asked for (01 R17, R21, 03 R57, 09 R167, 10 R172). -/
def Obligations.ReadsChangeNothing : Prop :=
  (∀ (tag : Nat) (c : Nat) (p : Permit) (rest : List Request) (s : State), validCredential c = true →
    s.atHead tag 6 (bytesOf 4 c) rest → s.permitOf c = some p → s.outside c →
    exec .readPermit s = .next
      ((s.taken rest).plusAnswer tag 6 .done (.permitPicture p (p.grants.length + 1) .outside))) ∧
  (∀ (tag : Nat) (c : Nat) (u : Staff) (q : Presence) (rest : List Request) (s : State), validCredential c = true →
    s.atHead tag 10 (bytesOf 4 c) rest → s.staffOf c = some u → s.presenceOf c = some q →
    exec .readEscort s = .next
      ((s.taken rest).plusAnswer tag 10 .done
        (.staffPicture u (.inside q.room) (s.roll.countP fun x => x.linkedTo c)))) ∧
  (∀ (tag first : Nat) (r : RoomId) (rest : List Request) (s : State), first ≤ 23 →
    s.atHead tag 14 (bytesOf 1 (roomNumber r) ++ bytesOf 1 first) rest →
    ∃ picture : RoomPicture,
      exec .readRoom s = .next ((s.taken rest).plusAnswer tag 14 .done (.room picture)) ∧
      picture.settings = s.roomSettings r ∧ picture.zoneIndex = (s.room r).zoneIndex ∧ picture.mode = (s.room r).mode ∧
      picture.rollState = (s.room r).rollState ∧ picture.door = (s.door r).state ∧
      picture.running = (s.door r).program.isSome ∧ picture.entryImage = s.entryImage r ∧
      picture.exitImage = s.exitImage r ∧
      picture.total = (s.roll.filter fun p => p.room == r).length ∧
      picture.records = ((s.roll.filter fun p => p.room == r).drop first).take 4) ∧
  (∀ (tag : Nat) (rest : List Request) (s : State), s.atHead tag 23 [] rest →
    ∃ picture : StatusPicture,
      exec .readStatus s = .next
        ({ s.taken rest with reports := { s.reports with overflow := false } }.plusAnswer tag 23 .done
          (.status picture)) ∧
      picture.overflow = s.reports.overflow ∧ picture.discards = s.reports.discards ∧
      picture.refusals = s.trunk.refusals ∧ picture.serial = s.serial ∧ picture.address = s.trunk.address ∧
      picture.commandItems = rest.length ∧ picture.answerItems = s.reports.answers.length ∧
      picture.link = s.trunk.link ∧ picture.minute = s.clock.minute ∧ picture.part = s.settings.part)

/-- DROP PERMIT and DROP ESCORT remove the record of a holder who is outside, and are refused IN_USE for one who is inside
(01 R10, R20). That the refusal names INSIDE for a member of staff who is inside and holds an ENTERED lead too is the model's choice
(log 32). -/
def Obligations.DropsRemoveTheRecord : Prop :=
  ∀ (tag : Nat) (c : Nat) (rest : List Request) (s : State), validCredential c = true →
    (s.atHead tag 2 (bytesOf 4 c) rest → ∀ p, s.permitOf c = some p →
      (s.outside c → exec .dropPermit s = .next
        (({ s.taken rest with permits := s.permits.filter fun q : Permit => q.credential != c } : State).plusAnswer tag 2 .done
          (.cellsFreed (p.grants.length + 1)))) ∧
      (∀ q, s.presenceOf c = some q → exec .dropPermit s = .next
        ((s.taken rest).plusAnswer tag 2 .inUse (.holderAt (.inside q.room))))) ∧
    (s.atHead tag 9 (bytesOf 4 c) rest → ∀ u, s.staffOf c = some u →
      (s.idleStaff c → exec .dropEscort s = .next
        (({ s.taken rest with roster := s.roster.filter fun v : Staff => v.credential != c } : State).plusAnswer tag 9 .done
          (.staffHeld (s.roster.filter fun v => v.credential != c).length))) ∧
      (∀ q, s.presenceOf c = some q → exec .dropEscort s = .next
        ((s.taken rest).plusAnswer tag 9 .inUse (.holderAt (.inside q.room)))))

/-- PURGE PERMITS removes every record whose grants have all ended and that is not in use, and nothing while the time is UNSET;
CLEAR TABLES empties both tables, unless a presence record, a party or a lead is held (01 R18, R22). -/
def Obligations.PurgeAndClear : Prop :=
  (∀ (tag : Nat) (rest : List Request) (s : State), s.atHead tag 7 [] rest →
    (s.clock.timeState = .unset →
      exec .purgePermits s = .next ((s.taken rest).plusAnswer tag 7 .notAllowed (.purged 0 0))) ∧
    (s.clock.timeState ≠ .unset →
      ∃ (t : State) (x y : Nat), exec .purgePermits s = .next (t.plusAnswer tag 7 .done (.purged x y)) ∧
        t = { s.taken rest with permits := t.permits } ∧
        (∀ p, p ∈ t.permits ↔ p ∈ s.permits ∧
          ¬ ((∀ g ∈ p.grants, g.validUntil ≤ s.clock.minute) ∧ s.outside p.credential)) ∧
        x = s.permits.length - t.permits.length ∧
        y = (s.permits.map fun p => p.grants.length + 1).sum - (t.permits.map fun p => p.grants.length + 1).sum)) ∧
  (∀ (tag : Nat) (rest : List Request) (s : State), s.atHead tag 11 [] rest →
    (s.roll = [] → (∀ r, s.slot r = .empty) →
      ∃ free : Nat, exec .clearTables s = .next ({ s.taken rest with permits := [], roster := [] }.plusAnswer tag 11 .done
        (.tablesCleared s.permits.length s.roster.length free)) ∧
        free = ((List.range 2048).filter fun c => !s.retired.retires c).length) ∧
    (s.roll ≠ [] →
      ∃ parties leads : Nat,
        exec .clearTables s = .next ((s.taken rest).plusAnswer tag 11 .inUse (.tablesInUse s.roll.length parties leads))))

/-- LOAD ESCORT replaces the record of a credential that has one, inserts one where the roster holds fewer than 256, is answered
NO_ROOM where it is full and CONFLICT where the credential has a permit record (01 R4, R19). -/
def Obligations.LoadEscortStores : Prop :=
  ∀ (tag : Nat) (u : Staff) (rest : List Request) (s : State),
    validCredential u.credential = true → 1 ≤ u.staffNumber → u.staffNumber ≤ 999999 → 1 ≤ u.ratio → u.ratio ≤ 4 →
    s.atHead tag 8 (bytesOf 4 u.credential ++ bytesOf 3 u.staffNumber ++ bytesOf 4 u.zoneMask.toNat ++ bytesOf 1 u.ratio
      ++ bytesOf 1 (yesNo u.mayEnterAlone) ++ bytesOf 1 (yesNo u.active)) rest →
    (∀ p, s.permitOf u.credential = some p →
      exec .loadEscort s = .next ((s.taken rest).plusAnswer tag 8 .conflict .heldByPermits)) ∧
    (s.permitOf u.credential = none → s.staffOf u.credential = none → 256 ≤ s.roster.length →
      exec .loadEscort s = .next ((s.taken rest).plusAnswer tag 8 .noRoom .nothing)) ∧
    (s.permitOf u.credential = none → s.staffOf u.credential = none → s.roster.length < 256 →
      ∃ t : State, exec .loadEscort s = .next (t.plusAnswer tag 8 .done (.staffInserted (s.roster.length + 1))) ∧
        t = { s.taken rest with roster := t.roster } ∧ t.staffOf u.credential = some u ∧
        (∀ d, d ≠ u.credential → t.staffOf d = s.staffOf d)) ∧
    (∀ old, s.permitOf u.credential = none → s.staffOf u.credential = some old →
      ∃ t : State, exec .loadEscort s = .next (t.plusAnswer tag 8 .done .staffReplaced) ∧
        t = { s.taken rest with roster := t.roster } ∧ t.staffOf u.credential = some u ∧
        (∀ d, d ≠ u.credential → t.staffOf d = s.staffOf d))

/-! ## Requests on rooms and doors -/

/-- SET ROOM of operating settings alone replaces the settings and nothing but them, whatever the room holds; where it changes the
check-in interval to 0 or from 0 the lone condition of the room is evaluated under the new one, and a change between values above 0
leaves every deadline (06 R112). One that changes an identity setting of a room that holds anything is answered IN_USE; and an
enabled room that would take the entry reader of another enabled room is answered BAD_VALUE naming the field and the place (03 R45,
R46, R47). That the entry reader is the field named also where another address of the request breaks R45 too is the model's choice
(log 41). What an identity change does to a room that holds nothing is `SetRoomEnablesAndDisables`. -/
def Obligations.SetRoomChecksAndStores : Prop :=
  ∀ (tag : Nat) (r : RoomId) (new : RoomSettings) (rest : List Request) (s : State),
    new.fields.firstBad = none →
    s.atHead tag 12 (bytesOf 1 (roomNumber r) ++ encodeRoomSettings new) rest →
    let old := s.roomSettings r
    let sameIdentity := old.enabled = new.enabled ∧ old.roomCode = new.roomCode ∧ old.entryReader = new.entryReader ∧
      old.exitReader = new.exitReader ∧ old.lockDriver = new.lockDriver
    let holds := (∃ p ∈ s.roll, p.room = r) ∨ s.slot r ≠ .empty
    (sameIdentity → uniquenessFault s.settings.rooms r new = none →
      exec .setRoom s = .next
        ({ s.taken rest with
            settings := { s.settings with rooms := put s.settings.rooms r new }
            roll :=
              if old.checkInInterval ≠ new.checkInInterval ∧ (old.checkInInterval = 0 ∨ new.checkInInterval = 0) then
                rollEvaluated new.checkInInterval s.clock.minute r s.roll
              else s.roll
            rooms := put s.rooms r { s.room r with zoneIndex := zoneIndexOf s.settings.part new.roomCode } }.plusAnswer
          tag 12 .done (.roomSet (zoneIndexOf s.settings.part new.roomCode) new.enabled))) ∧
    (¬ sameIdentity → holds →
      exec .setRoom s = .next ((s.taken rest).plusAnswer tag 12 .inUse
        (.roomInUse (s.roll.filter fun p => p.room == r).length (s.slot r).isParty (s.slot r).isLead))) ∧
    (¬ holds → new.enabled = true → ∀ q : RoomId, q ≠ r → (s.roomSettings q).enabled = true →
      (s.roomSettings q).entryReader = new.entryReader → new.entryReader ≠ 0 →
      (∀ x : RoomId, x ≠ r → x ≠ q → ∀ place, (s.roomSettings x).placeOf new.entryReader ≠ some place) →
      exec .setRoom s = .next ((s.taken rest).plusAnswer tag 12 .badValue (.addressTaken 4 q .entryReader)))

/-- What SET ROOM does to a room that holds nothing, whole with its DONE answer. Enabling makes the roll state UNCERTAIN and the images
IDLE and takes the door to a fresh start, FAULT with cause OFFLINE and its DOOR_FAULT where the driver is held OFFLINE; disabling puts
the room to NORMAL with its door SECURE and LOCKED. On a room that stays enabled a changed lock driver takes the door to a fresh start
too; a changed room code gives the new zone index; and a changed reader changes no image, overlay or door. A room that stays disabled
takes its settings and its zone index alone (03 R46, R48, 07 R139). That DOOR_FAULT names the state before the request is the model's
choice (log 25). -/
def Obligations.SetRoomEnablesAndDisables : Prop :=
  ∀ (tag : Nat) (r : RoomId) (new : RoomSettings) (rest : List Request) (s : State),
    new.fields.firstBad = none → uniquenessFault s.settings.rooms r new = none →
    s.atHead tag 12 (bytesOf 1 (roomNumber r) ++ encodeRoomSettings new) rest →
    (∀ p ∈ s.roll, p.room ≠ r) → s.slot r = .empty → (s.door r).sound →
    let old := s.roomSettings r
    let zone := zoneIndexOf s.settings.part new.roomCode
    let offline := s.driverIsOfflineAt new.lockDriver
    let stored : State := { s.taken rest with settings := { s.settings with rooms := put s.settings.rooms r new } }
    let fresh := put s.doors r (freshDoor offline)
    let alarmed :=
      if offline = true then s.reports.offerAlarm (s.faultAlarm r new.lockDriver .offline (s.door r).state) else s.reports
    let done := fun x : State => exec .setRoom s = .next (x.plusAnswer tag 12 .done (.roomSet zone new.enabled))
    (old.enabled = false → new.enabled = true → done
      { stored with
        rooms := put s.rooms r
          { zoneIndex := zone, mode := (s.room r).mode, rollState := .uncertain, entryOverlay := none, exitOverlay := none }
        doors := fresh
        reports := alarmed }) ∧
    (old.enabled = true → new.enabled = false → done
      { stored with
        rooms := put s.rooms r
          { zoneIndex := zone, mode := .normal, rollState := (s.room r).rollState, entryOverlay := none, exitOverlay := none }
        doors := put s.doors r (freshDoor false) }) ∧
    (old.enabled = true → new.enabled = true →
      let kept : State := { stored with rooms := put s.rooms r { s.room r with zoneIndex := zone } }
      (old.lockDriver ≠ new.lockDriver → done { kept with doors := fresh, reports := alarmed }) ∧
      (old.lockDriver = new.lockDriver → done kept)) ∧
    (old.enabled = false → new.enabled = false → done { stored with rooms := put s.rooms r { s.room r with zoneIndex := zone } })

/-- SET ROOM MODE to LOCKED denies every party member ROOM_LOCKED in member order, clears the slot whatever it holds, removes the
entry overlay and ends a running ENTRY program while an EXIT program runs on; to CONTRACTOR_HOLD from NORMAL it clears a party
and keeps a lead; a room already in the mode, and a disabled room, change nothing (03 R49, R50, R51, 05 R97, 07 R133). -/
def Obligations.SetRoomModeTellsTheBlocks : Prop :=
  ∀ (tag : Nat) (r : RoomId) (rest : List Request) (s : State),
    ((s.roomSettings r).enabled = true →
      s.atHead tag 13 (bytesOf 1 (roomNumber r) ++ bytesOf 1 2) rest → (s.room r).mode ≠ .locked →
      ∃ t : State, exec .setRoomMode s = .next t ∧
        t = { s.taken rest with rooms := t.rooms, slots := t.slots, doors := t.doors, reports := t.reports } ∧
        t.room r = { s.room r with mode := .locked, entryOverlay := none } ∧ t.slot r = .empty ∧
        t.entryImage r = .lockedOut ∧ t.exitImage r = s.exitImage r ∧
        (∀ q, q ≠ r → t.room q = s.room q ∧ t.slot q = s.slot q ∧ t.door q = s.door q) ∧
        (∀ p, (s.door r).program = some p → p.kind = .entry →
          (t.door r).program = none ∧ (t.door r).image.unlocked = false) ∧
        (∀ p, (s.door r).program = some p → p.kind = .exit → t.door r = s.door r) ∧
        t.reports.answers = s.reports.answers ++
          [{ tag := tag, name := 13, status := .done, data := .previousMode (s.room r).mode }] ∧
        (∀ y, s.slot r = .party y → s.reports.routine.length + y.members.length ≤ 32 →
          t.reports.routine = s.reports.routine ++ y.members.map fun m => .verdict
            { minute := s.clock.minute, second := s.clock.second, stale := s.clock.timeState == .stale,
              place := some (r, .entry), reader := (s.roomSettings r).entryReader, credential := m.credential,
              issueLevel := m.issueLevel, intent := none, outcome := .deny, reason := .roomLocked,
              permitNumber := some m.permitNumber, grantIndex := some m.grantIndex, escort := none, allowance := none,
              partySize := some y.members.length, removed := none })) ∧
    ((s.roomSettings r).enabled = true →
      s.atHead tag 13 (bytesOf 1 (roomNumber r) ++ bytesOf 1 1) rest → (s.room r).mode = .normal →
      ∃ t : State, exec .setRoomMode s = .next t ∧
        t = { s.taken rest with rooms := t.rooms, slots := t.slots, reports := t.reports } ∧
        (t.room r).mode = .contractorHold ∧ (∀ l, s.slot r = .lead l → t.slot r = .lead l) ∧
        (∀ y, s.slot r = .party y → t.slot r = .empty) ∧
        (∀ q, q ≠ r → t.room q = s.room q ∧ t.slot q = s.slot q)) ∧
    (∀ code : Nat, code ≤ 2 → s.atHead tag 13 (bytesOf 1 (roomNumber r) ++ bytesOf 1 code) rest →
      ((s.roomSettings r).enabled = false →
        exec .setRoomMode s = .next ((s.taken rest).plusAnswer tag 13 .notAllowed .nothing)) ∧
      ((s.roomSettings r).enabled = true → (s.room r).mode.code = code →
        exec .setRoomMode s = .next ((s.taken rest).plusAnswer tag 13 .done (.previousMode (s.room r).mode))))

/-- RECONCILE ROOM removes every record of the room that is not named, keeps the named ones and every record elsewhere in roll
order, makes the roll state EXACT and answers the counts; a disabled room is answered NOT_ALLOWED (06 R117, R118). The removals are
one departure: after all of them each is handled in roll order, with the links moved or broken, the alarms of those who stay and the
end of an ENTERED lead, and the lone condition is evaluated once (06 R106 to R108, in `State.departed`). -/
def Obligations.ReconcileRoomMatchesTheList : Prop :=
  ∀ (tag : Nat) (r : RoomId) (named : List Nat) (rest : List Request) (s : State),
    named.length ≤ 24 → (∀ c ∈ named, validCredential c = true) →
    s.atHead tag 15 (bytesOf 1 (roomNumber r) ++ bytesOf 1 named.length ++ (named.map (bytesOf 4)).flatten) rest →
    let here := s.roll.filter fun p => p.room == r
    ((s.roomSettings r).enabled = true →
      ∃ t : State, exec .reconcileRoom s = .next t ∧
        t = { s.taken rest with rooms := t.rooms, slots := t.slots, roll := t.roll, reports := t.reports } ∧
        t.roll.map (fun p => (p.room, p.credential)) =
          (s.roll.filter fun p => p.room != r || named.contains p.credential).map (fun p => (p.room, p.credential)) ∧
        (t.room r).rollState = .exact ∧
        (∀ q, q ≠ r → t.room q = s.room q) ∧
        t.reports.routine = s.reports.routine ∧
        t.reports.answers = s.reports.answers ++
          [{ tag := tag, name := 15, status := .done,
             data := .reconciled (here.filter fun p => !named.contains p.credential).length
               (here.filter fun p => named.contains p.credential).length
               (named.eraseDups.filter fun c => !here.any fun p => p.credential == c).length }] ∧
        ((s.roll.map Presence.credential).Nodup →
          let left := s.departed r (fun p => !named.contains p.credential) .reconcile
          t.roll = left.roll ∧ t.slots = left.slots ∧ t.reports.alarms = left.reports.alarms ∧
          t.reports.overflow = left.reports.overflow)) ∧
    ((s.roomSettings r).enabled = false →
      exec .reconcileRoom s = .next ((s.taken rest).plusAnswer tag 15 .notAllowed .nothing))

/-- SET PROGRAM replaces one program whole and touches nothing else, a running copy of it included (07 R128). -/
def Obligations.SetProgramReplaces : Prop :=
  ∀ (tag : Nat) (n : ProgramId) (steps : List Step) (rest : List Request) (s : State),
    steps.length ≤ 8 → (∀ x ∈ steps, x.inRange) →
    s.atHead tag 16 (bytesOf 1 n.val ++ programBytes steps) rest →
    exec .setProgram s = .next
      ({ s.taken rest with settings := { s.settings with programs := put s.settings.programs n steps } }.plusAnswer tag 16
        .done (.programSet steps.length (allRooms.countP fun r =>
          (s.roomSettings r).entryProgram == n || (s.roomSettings r).exitProgram == n)))

/-- CANCEL RELEASE ends a running program of either kind with the end actions, and RESUME ROOM takes a door from FAULT_HOLD to
SECURE unless its driver is held OFFLINE; a disabled room is answered NOT_ALLOWED (07 R131, R133, R137). -/
def Obligations.CancelAndResume : Prop :=
  ∀ (tag : Nat) (r : RoomId) (rest : List Request) (s : State), (s.door r).sound →
    (s.atHead tag 17 (bytesOf 1 (roomNumber r)) rest → (s.roomSettings r).enabled = true →
      (∀ p, (s.door r).program = some p → (s.door r).state ≠ .opened → exec .cancelRelease s = .next
        ({ s.taken rest with doors := put s.doors r (s.door r).shutDown }.plusAnswer tag 17 .done
          (.cancelled (some (p.kind, p.number))))) ∧
      ((s.door r).program = none → exec .cancelRelease s = .next
        ((s.taken rest).plusAnswer tag 17 .done (.cancelled none)))) ∧
    (s.atHead tag 18 (bytesOf 1 (roomNumber r)) rest → (s.roomSettings r).enabled = true →
      ((s.door r).state = .faultHold → s.driverIsOffline r = false → exec .resumeRoom s = .next
        ({ s.taken rest with
            doors := put s.doors r { (s.door r).shutDown with state := .secure, cause := none } }.plusAnswer tag 18 .done
          (.doorIs .faultHold))) ∧
      ((s.door r).state ≠ .faultHold → exec .resumeRoom s = .next
        ((s.taken rest).plusAnswer tag 18 .notAllowed (.doorIs (s.door r).state)))) ∧
    (∀ _ : (s.roomSettings r).enabled = false,
      (s.atHead tag 17 (bytesOf 1 (roomNumber r)) rest →
        exec .cancelRelease s = .next ((s.taken rest).plusAnswer tag 17 .notAllowed .nothing)) ∧
      (s.atHead tag 18 (bytesOf 1 (roomNumber r)) rest →
        exec .resumeRoom s = .next ((s.taken rest).plusAnswer tag 18 .notAllowed .nothing)))

/-- REMOTE RELEASE starts the program that the room selects for the kind: of a program UNLOCK, WAIT n, … a SECURE door becomes
RELEASED and UNLOCKED for the count adjusted by the dwell offset; an empty program does nothing; kind ENTRY is refused while the
room is LOCKED or its door in FAULT or FAULT_HOLD (07 R129, R130, R132, R140). -/
def Obligations.RemoteReleaseRunsTheProgram : Prop :=
  ∀ (tag : Nat) (r : RoomId) (kind : Direction) (rest : List Request) (s : State), (s.roomSettings r).enabled = true →
    s.atHead tag 19 (bytesOf 1 (roomNumber r) ++ bytesOf 1 kind.code) rest →
    let number := match kind with
      | .entry => (s.roomSettings r).entryProgram
      | .exit => (s.roomSettings r).exitProgram
    let refused := kind = .entry ∧
      ((s.room r).mode = .locked ∨ (s.door r).state = .fault ∨ (s.door r).state = .faultHold)
    (refused → exec .remoteRelease s = .next
      ((s.taken rest).plusAnswer tag 19 .notAllowed (.releaseRefused (s.room r).mode (s.door r).state))) ∧
    (¬ refused → look s.settings.programs number = [] → exec .remoteRelease s = .next
      ((s.taken rest).plusAnswer tag 19 .done (.release number .empty))) ∧
    (∀ (n : Nat) (others : List Step), ¬ refused → (s.door r).state = .secure → (s.door r).program = none →
      look s.settings.programs number = .unlock :: .wait n :: others →
      exec .remoteRelease s = .next
        ({ s.taken rest with
            doors := put s.doors r
              { s.door r with
                state := .released
                image := { (s.door r).image with unlocked := true }
                program := some { kind := kind, number := number, steps := .unlock :: .wait n :: others, current := 2 }
                waitTimer := some (countdownFrom s.now
                  ((clamp ((n : Int) + (s.roomSettings r).dwellOffset) 1 127).toNat * 250)) } }.plusAnswer tag 19 .done
          (.release number .started)))

/-! ## Requests on the field line and on the part -/

/-- SET STATION writes the kind and the enabled choice; a speed that differs is refused IN_USE while any room has a party; a
disabled station's items leave with CARRY_FAILED in their order, and its outstanding visit ends, counting neither as a reply nor
as a miss (08 R143, R144, R152). -/
def Obligations.SetStationWrites : Prop :=
  ∀ (tag : Nat) (a : StationId) (new : StationSettings) (speed : Nat) (rest : List Request) (s : State), speed ≤ 3 →
    s.atHead tag 20 (bytesOf 1 (fieldAddress a) ++ bytesOf 1 new.kind.code ++ bytesOf 1 (yesNo new.enabled)
      ++ bytesOf 1 speed) rest →
    let differs := speed ≠ 3 ∧ speed ≠ s.settings.part.lineSpeed.code
    let parties := allRooms.countP fun r => (s.slot r).isParty
    (differs → 0 < parties →
      exec .setStation s = .next ((s.taken rest).plusAnswer tag 20 .inUse (.partiesPending parties))) ∧
    (¬ differs ∨ parties = 0 →
      ∃ t : State, exec .setStation s = .next (t.plusAnswer tag 20 .done
          (.stationSet (s.station a).online (s.station a).missed)) ∧
        t = { s.taken rest with settings := t.settings, field := t.field, reports := t.reports } ∧
        t.settings = { s.settings with
          stations := put s.settings.stations a new
          part := { s.settings.part with
            lineSpeed := if speed = 3 then s.settings.part.lineSpeed else speedOfCode speed } } ∧
        t.reports.alarms = s.reports.alarms ∧ t.reports.answers = s.reports.answers ∧
        (new.enabled = true → t.field.carryDown = s.field.carryDown ∧ t.field.visit = s.field.visit ∧
          t.reports = s.reports) ∧
        (new.enabled = false →
          t.field.carryDown = (s.field.carryDown.filter fun i => i.station != a) ∧
          (∀ v, s.field.visit = some v → v.station = a → t.field.visit = none) ∧
          (∀ v, s.field.visit = some v → v.station ≠ a → t.field.visit = some v) ∧
          (s.reports.routine.length + (s.field.carryDown.filter fun i => i.station == a).length ≤ 32 →
            t.reports.routine = s.reports.routine ++ (s.field.carryDown.filter fun i => i.station == a).map fun i =>
              .carryFailed s.clock.minute s.clock.second (fieldAddress a) i.tag i.payload.length .stationDisabled)))

/-- SET PART replaces all nine settings; a changed group mode or shift recomputes every zone index; a line speed that differs is
refused IN_USE while any room has a party; timers that run keep their durations (09 R165, 03 R42). -/
def Obligations.SetPartReplaces : Prop :=
  ∀ (tag : Nat) (new : PartSettings) (rest : List Request) (s : State), new.fields.firstBad = none →
    s.atHead tag 21 (encodePart new) rest →
    let old := s.settings.part
    let parties := allRooms.countP fun r => (s.slot r).isParty
    (old.lineSpeed ≠ new.lineSpeed → 0 < parties →
      exec .setPart s = .next ((s.taken rest).plusAnswer tag 21 .inUse (.partiesPending parties))) ∧
    (old.lineSpeed = new.lineSpeed ∨ parties = 0 →
      (old.groupMode = new.groupMode → old.shift = new.shift →
        ∃ changed : List Bool, exec .setPart s = .next
          ({ s.taken rest with settings := { s.settings with part := new } }.plusAnswer tag 21 .done
            (.partSet changed none))) ∧
      (old.groupMode ≠ new.groupMode ∨ old.shift ≠ new.shift →
        ∃ (t : State) (changed : List Bool), exec .setPart s = .next (t.plusAnswer tag 21 .done
            (.partSet changed (some (allRooms.map fun r => (t.room r).zoneIndex)))) ∧
          t = { s.taken rest with settings := { s.settings with part := new }, rooms := t.rooms } ∧
          (∀ r, t.room r = { s.room r with
            zoneIndex := (s.roomSettings r).roomCode / 2 ^ new.shift % new.groupMode.size })))

/-- CARRY puts its item at the end of the carry-down queue, is answered NO_ROOM where it holds 8 and NOT_ALLOWED where the
station is disabled (09 R166, 08 R151). The NO_ROOM number counts a riding item too: the
model's choice, log 50. -/
def Obligations.CarryQueuesTheItem : Prop :=
  ∀ (tag : Nat) (a : StationId) (payload : List Byte) (rest : List Request) (s : State),
    1 ≤ payload.length → payload.length ≤ 160 →
    s.atHead tag 22 (bytesOf 1 (fieldAddress a) ++ bytesOf 1 payload.length ++ payload) rest →
    let forStation := (s.field.carryDown.filter fun i => i.station == a).length
    ((s.stationSettings a).enabled = false →
      exec .carry s = .next ((s.taken rest).plusAnswer tag 22 .notAllowed .nothing)) ∧
    ((s.stationSettings a).enabled = true → 8 ≤ s.field.carryDown.length →
      exec .carry s = .next ((s.taken rest).plusAnswer tag 22 .noRoom (.carryFull forStation))) ∧
    ((s.stationSettings a).enabled = true → s.field.carryDown.length < 8 →
      exec .carry s = .next
        (({ s.taken rest with
            field := { s.field with carryDown :=
              s.field.carryDown ++ [({ station := a, tag := tag, payload := payload, riding := false } : CarryItem)] } } :
          State).plusAnswer tag 22 .done (.carryQueued (s.field.carryDown.length + 1) (forStation + 1))))

/-- SAVE SETTINGS is refused at the probe without an answering memory; otherwise the store takes its copy, the executor holds the
request without an answer, and the end of the write leaves the memory and the answer that 11 R182 and R183 give for each
outcome (09 R164, 11 R182, R183). What a part-written image holds is log 30, and that the outside says what a memory holds whose
read-back stopped or differed is log 10. -/
def Obligations.SaveSettingsAndItsEnd : Prop :=
  (∀ (tag : Nat) (rest : List Request) (s : State), s.atHead tag 24 [] rest →
    exec (.saveSettings false) s = .next ((s.taken rest).plusAnswer tag 24 .noStore (.saveFailed .probe)) ∧
    exec (.saveSettings true) s = .next
      { s.taken rest with executor := .saving tag (imageOf s.settings s.trunk.address) }) ∧
  (∀ (moment : Nat) (tag : Nat) (copy : SettingsImage) (outcome : WriteOutcome) (s : State), s.phase = .running →
    s.executor = .saving tag copy →
    ∃ (memory : ConfigMemory) (status : Status) (data : AnswerData),
      exec (.saveWriteEnd moment outcome) s = .next
        ({ s with now := max s.now moment, memory := memory, executor := .free }.plusAnswer tag 24 status data) ∧
      (outcome = .complete →
        memory = { signature := true, image := some copy } ∧ status = .done ∧ data = .saved 512) ∧
      (outcome ≠ .complete → status = .noStore ∧ ∃ stage, data = .saveFailed stage) ∧
      (outcome = .clearFailed false → memory = s.memory ∧ data = .saveFailed .clear) ∧
      (outcome = .clearFailed true → memory.signature = false ∧ data = .saveFailed .clear) ∧
      (outcome = .imageFailed → memory.signature = false ∧ data = .saveFailed .image) ∧
      (outcome = .signatureFailed → memory.signature = false ∧ data = .saveFailed .signature) ∧
      (∀ found, outcome = .readBackStopped found →
        memory = { signature := true, image := some found } ∧ data = .saveFailed .verify) ∧
      (outcome = .differsCleared → memory.signature = false ∧ data = .saveFailed .verify) ∧
      (∀ found, outcome = .differsKept found →
        memory = { signature := true, image := some found } ∧ data = .saveFailed .verify))

/-- ASSIGN ADDRESS gives an unassigned part its address at once, is answered NOT_ALLOWED with the current address by an assigned
one, and BAD_VALUE for an address outside 1 to 250 (09 R155). That the range is checked first is log 36. -/
def Obligations.AssignAddressTakesTheAddress : Prop :=
  ∀ (tag serial address : Nat) (rest : List Request) (s : State), serial < 4294967296 → address < 256 →
    s.atHead tag 26 (bytesOf 4 serial ++ bytesOf 1 address) rest →
    (¬ assignedAddress address →
      exec .assignAddress s = .next ((s.taken rest).plusAnswer tag 26 .badValue (.badField 2))) ∧
    (assignedAddress address → s.trunk.address ≠ 254 →
      exec .assignAddress s = .next ((s.taken rest).plusAnswer tag 26 .notAllowed (.addressHeld s.trunk.address))) ∧
    (assignedAddress address → s.trunk.address = 254 →
      exec .assignAddress s = .next
        ({ s.taken rest with trunk := { s.trunk with commands := rest, address := address } }.plusAnswer tag 26 .done
          (.addressSet address s.serial)))

/-! ## Seconds and minutes -/

/-- A second tick counts one second; past 59 the minute goes up, held at its ceiling, the minutes-since-TIME count goes up, and at
1440 in SET the time becomes STALE with TIME_STALE (02 R25, R28, R29). The roll is empty here; `MinuteEventWalksTheRoll` says
what the event does to its records. -/
def Obligations.SecondTickCounts : Prop :=
  ∀ (staleFirst : Bool) (s : State), s.phase = .running →
    let now := max s.now s.clock.nextCount
    let next := s.clock.nextCount + 1000
    (s.clock.second < 59 → exec (.secondTick staleFirst) s = .next
      { s with now := now, clock := { s.clock with second := s.clock.second + 1, nextCount := next } }) ∧
    (59 ≤ s.clock.second → s.roll = [] →
      let minute := min (s.clock.minute + 1) 4294967295
      let count := min (s.clock.sinceTime + 1) 65535
      (¬ (count = 1440 ∧ s.clock.timeState = .set) → exec (.secondTick staleFirst) s = .next
        { s with
          now := now
          clock := { s.clock with minute := minute, second := 0, sinceTime := count, nextCount := next } }) ∧
      (count = 1440 → s.clock.timeState = .set → exec (.secondTick staleFirst) s = .next
        { s with
          now := now
          clock := { s.clock with minute := minute, second := 0, timeState := .stale, sinceTime := count, nextCount := next }
          reports := s.reports.offerAlarm
            { minute := minute, second := 0, room := none, credential := none, station := none, repeats := 0,
              detail := .timeStale minute s.clock.lastTime } }))

/-- The minute event walks the roll: each contractor record whose stay deadline is reached is marked OVERSTAY_RAISED, once, and
each whose check-in deadline is reached is moved on or spent; staff records and every other field stay. Each record newly marked
has its OVERSTAY alarm in the queue, and each check-in deadline reached its LONE_WORKER_OVERDUE, or the alarm-overflow flag is set
(06 R109, R111, R113, 10 R171, R172). That a deadline of this minute made just before the event, with an allowance or an interval of 1,
is due at it is the model's choice (log 42). -/
def Obligations.MinuteEventWalksTheRoll : Prop :=
  ∀ (staleFirst : Bool) (s : State), s.phase = .running → 59 ≤ s.clock.second → (s.roll.map Presence.credential).Nodup →
    let minute := min (s.clock.minute + 1) 4294967295
    ∃ t : State, exec (.secondTick staleFirst) s = .next t ∧
      t = { s with now := t.now, clock := t.clock, roll := t.roll, reports := t.reports } ∧
      t.clock.minute = minute ∧
      t.roll = (s.roll.map fun p =>
        { p with contractor := p.contractor.map fun k => k.atMinute minute (s.roomSettings p.room).checkInInterval }) ∧
      t.reports.answers = s.reports.answers ∧ t.reports.routine = s.reports.routine ∧
      t.reports.discards = s.reports.discards ∧
      (∀ p ∈ s.roll, ∀ k, p.contractor = some k → k.overstayRaised = false → k.stayDeadline ≤ minute →
        t.reports.overflow = true ∨
        ∃ a ∈ t.reports.alarms, a.key = (.overstay, some p.room, some p.credential, none)) ∧
      (∀ p ∈ s.roll, ∀ k d, p.contractor = some k → k.checkIn = .armed d → d ≤ minute →
        t.reports.overflow = true ∨
        ∃ a ∈ t.reports.alarms, a.key = (.loneWorkerOverdue, some p.room, some p.credential, none))

/-! ## The field line -/

/-- A visit carries the image of the station's position and the payload of its oldest carry item, which then rides; the timeout
starts, and the station becomes the last visited. No visit is sent while one is outstanding or no station is chosen; the choice
is the lowest enabled address above the last one visited, else the lowest of all (08 R144 to R146, 12 R187). -/
def Obligations.VisitCarriesImageAndItem : Prop :=
  (∀ (moment : Nat) (a : StationId) (s : State), s.phase = .running → s.field.visit = none → s.field.chosen = some a →
    let sent := fun (image : Nat) (payload : List Byte) (carry : List CarryItem) =>
      ({ s with
        now := max s.now moment
        field :=
          { visit := some
              { station := a
                frame := (visitFrame (fieldAddress a) image payload).bytes
                speed := s.settings.part.lineSpeed
                timeout := countdownFrom (max s.now moment) s.settings.part.replyTimeout }
            chosen := none, lastVisited := some a, carryDown := carry } } : State)
    ∀ image : Nat,
      ((∃ r, s.placeOf (fieldAddress a) = some (r, .lockDriver) ∧ image = outputByte (s.door r).image) ∨
       (∃ r, s.placeOf (fieldAddress a) = some (r, .entryReader) ∧ image = (s.entryImage r).code) ∨
       (∃ r, s.placeOf (fieldAddress a) = some (r, .exitReader) ∧ image = (s.exitImage r).code) ∨
       (s.placeOf (fieldAddress a) = none ∧ image = Indication.code .idle)) →
      ((∀ i ∈ s.field.carryDown, i.station ≠ a) →
        exec (.visitSend moment) s = .next (sent image [] s.field.carryDown)) ∧
      (∀ before i after, s.field.carryDown = before ++ i :: after → i.station = a → (∀ j ∈ before, j.station ≠ a) →
        exec (.visitSend moment) s
          = .next (sent image i.payload (before ++ { i with riding := true } :: after)))) ∧
  (∀ (moment : Nat) (s : State), (s.field.visit ≠ none ∨ s.field.chosen = none) →
    exec (.visitSend moment) s = .next s) ∧
  (∀ (stations : Vector StationSettings 16) (l b : StationId), nextStation stations (some l) = some b ↔
    (look stations b).enabled = true ∧
    ((l.val < b.val ∧ ∀ c : StationId, (look stations c).enabled = true → l.val < c.val → b.val ≤ c.val) ∨
     ((∀ c : StationId, (look stations c).enabled = true → c.val ≤ l.val) ∧
      ∀ c : StationId, (look stations c).enabled = true → b.val ≤ c.val)))

/-- A missed or bad reply, by VISIT_TIMEOUT, FIELD_GAP_ABANDON, a FIELD_FRAME that is a bad reply (length, CRC, source, kind or
contents), an ignored frame that ends when the timeout has expired, or a frame that begins after the timeout, when the visit has been
missed: the count goes up to 3 and stays there; at 3 from 2 the station becomes OFFLINE with STATION_OFFLINE, and the door of a room
whose lock driver it is enters FAULT with cause OFFLINE unless it is in a fault. The riding item leaves with CARRY_FAILED at every
count, and the next station is chosen (08 R147, R149, R150, R152, 07 R138, 05 R98). The model's readings: a FIELD_FRAME that begins
late itself ends the visit as missed (log 48), every frame of another source is a bad reply, the late reply of a disabled station too
(log 43), and CARRY_FAILED comes after the alarm and the notice (log 40). -/
def Obligations.MissedVisitsCount : Prop :=
  ∀ (c : Instr) (moment : Nat) (cause : CarryCause) (v : Visit) (s : State), s.phase = .running →
    s.field.visit = some v →
    ((c = .visitTimeout ∧ moment = v.timeout.ends ∧ cause = .noReply) ∨
     (∃ (f : Frame) (n : Nat), f.payload.length ≤ 200 ∧ 1 ≤ n ∧ n < f.bytes.length ∧
       c = .fieldGapAbandon moment (f.bytes.take n) ∧ cause = .badReply) ∨
     (∃ (bytes : List Byte) (began : Nat), badFieldFrame v.station (s.stationSettings v.station).kind bytes ∧
       began ≤ v.timeout.ends ∧ c = .fieldFrame moment bytes began ∧ cause = .badReply) ∨
     (∃ (f : Frame) (began : Nat), 1 ≤ f.destination ∧ f.destination < 256 ∧ f.payload.length ≤ 200 ∧
       began ≤ v.timeout.ends ∧ v.timeout.ends ≤ max s.now moment ∧ c = .fieldFrame moment f.bytes began ∧ cause = .noReply) ∨
     (∃ (bytes : List Byte) (began last : Nat),
       (badFieldFrame v.station (s.stationSettings v.station).kind bytes ∨
         ∃ f : Frame, f.destination < 256 ∧ f.payload.length ≤ 200 ∧ bytes = f.bytes) ∧
       v.timeout.ends < began ∧ c = .fieldFrame last bytes began ∧ moment = v.timeout.ends ∧ cause = .noReply)) →
    ∀ (left : List CarryItem) (told : Reports → Reports),
      ((∀ i ∈ s.field.carryDown, i.riding = false) ∧ left = s.field.carryDown ∧ told = id) ∨
        (∃ before i after, s.field.carryDown = before ++ i :: after ∧ i.riding = true ∧
          (∀ j ∈ before ++ after, j.riding = false) ∧ left = before ++ after ∧
          told = fun q => q.offerRoutine
            (.carryFailed s.clock.minute s.clock.second (fieldAddress i.station) i.tag i.payload.length cause)) →
      let a := v.station
      let u := s.station a
      let counted := fun x : StationState => { s with now := max s.now moment, stations := put s.stations a x }
      let ended := fun x : State => exec c s = .next
        { x.visitOver with field := { x.visitOver.field with carryDown := left }, reports := told x.reports }
      (u.missed < 2 → ended (counted { u with missed := u.missed + 1 })) ∧
      (3 ≤ u.missed → ended (counted u)) ∧
      (u.missed = 2 →
        let lost : State :=
          { counted { online := .offline, missed := 3 } with
            reports := s.reports.offerAlarm
              { minute := s.clock.minute, second := s.clock.second, room := s.roomOfStation a, credential := none
                station := some (fieldAddress a), repeats := 0
                detail := .stationOffline (s.stationSettings a).kind u.online cause } }
        let faults := fun r : RoomId =>
          s.placeOf (fieldAddress a) = some (r, .lockDriver) ∧ (s.door r).state ≠ .fault ∧ (s.door r).state ≠ .faultHold
        ((∀ r, ¬ faults r) → ended lost) ∧ (∀ r, faults r → ended (lost.doorFaulted r .offline)))

/-- A good reply: the station is ONLINE with count 0, the riding item is delivered, the body is handed on (a presentation to the
Decision Engine, a lock driver's events to Door Control, in list order) and a carry-up payload becomes a CARRY_UP item; an OFFLINE
station gives STATION_ONLINE. A frame for another destination that ends before the timeout is ignored, and one received with no
visit outstanding is discarded. All this of a frame that begins by the end of the timeout (`MissedVisitsCount` says what one that ends
or begins later and a bad reply do) (08 R147 to R149, R153, 07 R124). -/
def Obligations.FieldFramesAreJudged : Prop :=
  (∀ (moment : Nat) (bytes : List Byte) (began : Nat) (s : State), s.field.visit = none →
    exec (.fieldFrame moment bytes began) s = .next s) ∧
  (∀ (moment began : Nat) (v : Visit) (up : List Byte) (s : State), s.phase = .running → began ≤ v.timeout.ends →
    s.field.visit = some v → up.length ≤ 160 →
    let a := v.station
    let answered :=
      ({ s with
        now := max s.now moment
        stations := put s.stations a { online := .online, missed := 0 }
        field := { s.field with carryDown := s.field.carryDown.filter fun i => !i.riding } } : State)
    ((s.station a).online ≠ .offline →
      (exec (.fieldFrame moment (replyBytes a [0] up) began) s = .next (answered.plusCarryUp a up).visitOver) ∧
      (∀ credential level checkIn, credential < 4294967296 → level ≤ 15 →
        (s.stationSettings a).kind = .reader →
        exec (.fieldFrame moment (replyBytes a ([1] ++ bytesOf 4 credential ++ bytesOf 1 level ++ bytesOf 1 (yesNo checkIn))
          up) began) s
        = .next ((answered.present
            { reader := a, credential := credential, issueLevel := level
              intent := if checkIn = true then .checkIn else .pass }).plusCarryUp a up).visitOver) ∧
      (∀ (r : RoomId) (events : List DriverEvent), events.length ≤ 4 → (s.stationSettings a).kind = .lockDriver →
        s.placeOf (fieldAddress a) = some (r, .lockDriver) →
        exec (.fieldFrame moment (replyBytes a ([2] ++ bytesOf 1 events.length ++ (events.map fun e => bytesOf 1 e.code).flatten)
          up) began) s
        = .next (((events.foldl (fun x e => x.driverEvent r e) answered).plusCarryUp a up).visitOver))) ∧
    ((s.station a).online = .offline → ∃ t : State,
      exec (.fieldFrame moment (replyBytes a [0] up) began) s = .next t ∧
      t.station a = { online := .online, missed := 0 } ∧ t.field.visit = none ∧
      (t.reports.overflow = true ∨
        ∃ x ∈ t.reports.alarms, x.key = (.stationOnline, s.roomOfStation a, none, some (fieldAddress a))) ∧
      (∀ r, s.placeOf (fieldAddress a) = some (r, .lockDriver) → (s.door r).state = .fault →
        (s.door r).cause = some .offline → (t.door r).state = .secure ∧ (t.door r).cause = none)) ∧
    (∀ f : Frame, 1 ≤ f.destination → f.destination < 256 → f.payload.length ≤ 200 → max s.now moment < v.timeout.ends →
      exec (.fieldFrame moment f.bytes began) s = .next { s with now := max s.now moment }))

/-- What a lock driver's events do. CLOSED is stated whole (07 R125): it stops the held timer of an OPEN door and gives SECURE or
RELEASED by the lock, and it raises no alarm and ends none. OPENED forces a SECURE door with DOOR_FORCED and an UNCERTAIN roll, and
opens a RELEASED one with a fresh held timer unless the shunt is ON (R124, R126); BUTTON asks for the exit program (R135). FAULT takes
a door in any other state to FAULT with cause REPORTED: a program ends with the end actions, the held timer stops, DOOR_FAULT is
raised with the state before, every party member is denied DOOR_FAULT and the slot is cleared (R136, 05 R98). FAULT_CLEARED takes a
FAULT of cause REPORTED to FAULT_HOLD and changes nothing otherwise (R137). -/
def Obligations.DriverEventsMoveTheDoor : Prop :=
  ∀ (r : RoomId) (s : State),
    let d := s.door r
    let shut : DoorState := if d.image.unlocked = true then .released else .secure
    (d.state = .opened → s.driverEvent r .closed
      = { s with doors := put s.doors r { d with state := shut, heldTimer := none } }) ∧
    (d.state = .held → s.driverEvent r .closed = { s with doors := put s.doors r { d with state := shut } }) ∧
    (d.state = .forced → s.driverEvent r .closed = { s with doors := put s.doors r { d with state := .secure } }) ∧
    (d.state = .secure ∨ d.state = .released ∨ d.state = .fault ∨ d.state = .faultHold →
      s.driverEvent r .closed = s) ∧
    (d.state = .released → s.driverEvent r .opened
      = { s with
          doors := put s.doors r
            { d with
              state := .opened
              heldTimer := if d.image.shunt = true then none
                else some (countdownFrom s.now ((s.roomSettings r).heldLimit * 1000)) } }) ∧
    (d.state = .secure → s.driverEvent r .opened
      = { s with
          doors := put s.doors r { d with state := .forced }
          rooms := put s.rooms r { s.room r with rollState := .uncertain }
          reports := s.reports.offerAlarm
            { minute := s.clock.minute, second := s.clock.second, room := some r, credential := none
              station := some (s.roomSettings r).lockDriver, repeats := 0
              detail := .doorForced (s.roll.filter fun p => p.room == r).length d.program.isSome } }) ∧
    (d.state ≠ .secure → d.state ≠ .released → s.driverEvent r .opened = s) ∧
    (s.driverEvent r .button
      = { s.release r .exit with rooms := put s.rooms r { s.room r with rollState := .uncertain } }) ∧
    (d.state = .fault → s.driverEvent r .fault = s) ∧
    (d.state ≠ .fault → s.driverEvent r .fault = s.doorFaulted r .reported) ∧
    (d.state = .fault → d.cause = some .reported →
      s.driverEvent r .faultCleared = { s with doors := put s.doors r { d with state := .faultHold } }) ∧
    (d.state ≠ .fault ∨ d.cause ≠ some .reported → s.driverEvent r .faultCleared = s)

/-! ## Timers -/

/-- The held timer's expiry makes an OPEN door HELD and raises DOOR_HELD with the limit it ran for; the program and the image
stay (07 R127). The WAIT timer's expiry takes the next steps: a following WAIT begins, and without one the program ends with the
end actions (07 R129, R131). -/
def Obligations.HeldAndWaitTimersExpire : Prop :=
  ∀ (r : RoomId) (c : Countdown) (s : State), s.phase = .running →
    let d := s.door r
    (d.state = .opened → d.heldTimer = some c → exec (.heldTimerExpiry r) s = .next
      { s with
        now := max s.now c.ends
        doors := put s.doors r { d with state := .held, heldTimer := none }
        reports := s.reports.offerAlarm
          { minute := s.clock.minute, second := s.clock.second, room := some r, credential := none
            station := some (s.roomSettings r).lockDriver, repeats := 0
            detail := .doorHeld (c.duration / 1000) d.program.isSome } }) ∧
    (∀ p, d.waitTimer = some c → d.program = some p →
      (∀ n others, p.steps.drop p.current = .wait n :: others → adjustedWait p.steps ≠ some (p.current + 1) →
        exec (.waitExpiry r) s = .next
          { s with
            now := max s.now c.ends
            doors := put s.doors r
              { d with
                program := some { p with current := p.current + 1 }
                waitTimer := some (countdownFrom (max s.now c.ends) (n * 250)) } }) ∧
      ((p.steps.drop p.current = [] ∨ p.steps.drop p.current = [.lock]) → d.state ≠ .opened →
        exec (.waitExpiry r) s = .next
          { s with now := max s.now c.ends, doors := put s.doors r d.shutDown }) ∧
      ((∀ x ∈ p.steps.drop p.current, ∀ n, x ≠ .wait n) →
        ∃ e : Door, exec (.waitExpiry r) s = .next { s with now := max s.now c.ends, doors := put s.doors r e } ∧
          e.program = none ∧ e.waitTimer = none ∧ e.state ≠ .released ∧
          e.image = { unlocked := false, sounder := false, beacon := false, shunt := false }))

/-- A party's window denies every member ESCORT_TIMEOUT in member order and clears the party (05 R94); a lead's clears it, with one
LEAD_TIMEOUT where it was WAITING (05 R93); an overlay's returns the image to its base (03 R53); the silence timer's makes an
ONLINE link SILENT and records the moment, raising no alarm (09 R159). -/
def Obligations.WindowsAndOverlaysExpire : Prop :=
  ∀ (r : RoomId) (s : State), s.phase = .running →
    (∀ y, s.slot r = .party y → y.members ≠ [] →
      let t := { s with now := max s.now y.window.ends }
      ∃ reports : Reports, exec (.partyWindowExpiry r) s = .next
        { t with slots := put s.slots r .empty, rooms := t.roomsShowing r .entry .denied, reports := reports } ∧
        reports.alarms = s.reports.alarms ∧ reports.answers = s.reports.answers ∧
        (s.reports.routine.length + y.members.length ≤ 32 →
          reports.routine = s.reports.routine ++ y.members.map fun m =>
            .verdict (s.verdictOfMember r m y.members.length .deny .escortTimeout))) ∧
    (∀ l, s.slot r = .lead l →
      let t := { s with now := max s.now l.window.ends, slots := put s.slots r .empty }
      (l.kind = .entered → exec (.leadWindowExpiry r) s = .next t) ∧
      (l.kind = .waiting → exec (.leadWindowExpiry r) s = .next
        { t with
          rooms := t.roomsShowing r .entry .denied
          reports := s.reports.offerRoutine (.verdict
            { minute := s.clock.minute, second := s.clock.second, stale := s.clock.timeState == .stale
              place := some (r, .entry), reader := (s.roomSettings r).entryReader, credential := l.staff
              issueLevel := l.issueLevel, intent := none, outcome := .leadTimeout, reason := .none, permitNumber := none
              grantIndex := none, escort := none, allowance := none, partySize := none, removed := none }) })) ∧
    (∀ o, (s.room r).entryOverlay = some o → ∃ t : State, exec (.overlayExpiry r .entry) s = .next t ∧
      t = { s with now := max s.now o.timer.ends, rooms := put s.rooms r { s.room r with entryOverlay := none } } ∧
      t.entryImage r = s.entryBase r) ∧
    (∀ o, (s.room r).exitOverlay = some o → ∃ t : State, exec (.overlayExpiry r .exit) s = .next t ∧
      t = { s with now := max s.now o.timer.ends, rooms := put s.rooms r { s.room r with exitOverlay := none } } ∧
      t.exitImage r = .idle) ∧
    (∀ c, s.trunk.silenceTimer = some c →
      (s.trunk.link = .online → exec .silenceTimerExpiry s = .next
        { s with
          now := max s.now c.ends
          trunk := { s.trunk with link := .silent, silenceTimer := none, silentSince := some (max s.now c.ends) } }) ∧
      (s.trunk.link = .silent → exec .silenceTimerExpiry s = .next
        { s with now := max s.now c.ends, trunk := { s.trunk with silenceTimer := none } }))

/-! ## Decisions. `FieldFramesAreJudged` says which commands hand a presentation to `State.present` -/

/-- Repeat suppression ignores a presentation whole (03 R55). One let through at an entry reader meets its checks in their order,
and the first that fails denies it: BAD_CREDENTIAL, ROOM_LOCKED, DOOR_FAULT, NO_PERMIT; ESCORT_INACTIVE and WRONG_ZONE for staff;
ROOM_HOLD, TIME_UNKNOWN, SUSPENDED, REVOKED and ISSUE_MISMATCH for a contractor who does not wait there. A denial sets the DENIED
overlay and offers its VERDICT item, and changes nothing else, but that ISSUE_MISMATCH raises ISSUE_CONFLICT too (04 R59, R61, R62,
R66, R67). Passback comes after the zone check for staff and after the choice of a grant for a contractor: a holder with a record is
denied ALREADY_INSIDE where the room is HARD and the record's room EXACT; otherwise PASSBACK is raised, the record departs, and the
decision is the one on the state that this leaves, where the holder has no record (04 R70; the order of the alarms: log 24; that
a lead ended so stays ended after a failed occupancy check: the model's choice, log 49). A contractor
none of whose grants applies is denied with the reason and the index of the grant that the stages choose (04 R69); one who
presents again at a room where it waits is PENDING again and nothing changes (04 R65). An invalid credential is EXIT_UNMATCHED at an
exit reader, with the exit program, and denied without a room at an address that is no reader of an enabled room, where a valid one is
forwarded or dropped by the unassigned-reader policy (04 R59, R60, 03 R44, R56). -/
def Obligations.EntryChecksInOrder : Prop :=
  (∀ (p : Presentation) (last : LastPresentation) (s : State), look s.lastSeen p.reader = some last →
    last.credential = p.credential → last.moment ≤ s.now →
    s.now < last.moment + s.settings.part.repeatSuppression * 500 → s.present p = s) ∧
  (∀ (r : RoomId) (p : Presentation) (s : State), s.placeOf (fieldAddress p.reader) = some (r, .entryReader) → s.lets p →
    let denied := fun (permitNumber : Option Nat) (reason : Reason) =>
      { s.noted p with
        rooms := s.roomsShowing r .entry .denied
        reports := s.reports.offerRoutine (.verdict
          { s.verdictOn p (some (r, .entry)) .deny reason with permitNumber := permitNumber }) }
    let isFault := (s.door r).state = .fault ∨ (s.door r).state = .faultHold
    (validCredential p.credential = false → s.present p = denied none .badCredential) ∧
    (validCredential p.credential = true →
      ((s.room r).mode = .locked → s.present p = denied none .roomLocked) ∧
      ((s.room r).mode ≠ .locked →
        (isFault → s.present p = denied none .doorFault) ∧
        (¬ isFault →
          (s.staffOf p.credential = none → s.permitOf p.credential = none → s.present p = denied none .noPermit) ∧
          (∀ u, s.staffOf p.credential = some u →
            (u.active = false → s.present p = denied none .escortInactive) ∧
            (u.active = true → s.inZone r u.zoneMask = false → s.present p = denied none .wrongZone)) ∧
          (∀ w, s.staffOf p.credential = none → s.permitOf p.credential = some w →
            (∀ y, s.slot r = .party y → ∀ m ∈ y.members, m.credential ≠ p.credential) →
            ((s.room r).mode = .contractorHold → s.present p = denied (some w.permitNumber) .roomHold) ∧
            ((s.room r).mode = .normal →
              (s.clock.timeState = .unset → s.present p = denied (some w.permitNumber) .timeUnknown) ∧
              (s.clock.timeState ≠ .unset →
                (w.state = .suspended → s.present p = denied (some w.permitNumber) .suspended) ∧
                (w.state = .revoked → s.present p = denied (some w.permitNumber) .revoked) ∧
                (∀ f, w.state = .active → w.lock = .fixed f → f ≠ p.issueLevel →
                  let refused := denied (some w.permitNumber) .issueMismatch
                  s.present p
                    = { refused with
                        reports := refused.reports.offerAlarm
                          { minute := s.clock.minute, second := s.clock.second, room := some r
                            credential := some p.credential, station := some (fieldAddress p.reader), repeats := 0
                            detail := .issueConflict p.issueLevel f w.permitNumber } })))))))) ∧
  (∀ (r : RoomId) (p : Presentation) (q : Presence) (permitNumber : Option Nat) (s : State),
    s.presenceOf p.credential = some q →
    ((∃ u, s.reachesStaff r p u ∧ permitNumber = none ∧ (q.room = r → ∀ y, s.slot r ≠ .party y)) ∨
      (∃ w c, s.reachesLock r p w ∧ (w.lock = .off ∨ w.lock = .learn ∨ w.lock = .fixed p.issueLevel) ∧
        chooseGrant s.settings.part (s.room r).zoneIndex s.clock.minute w.grants = some c ∧
        permitNumber = some w.permitNumber)) →
    ((s.roomSettings r).passback = .hard → (s.room q.room).rollState = .exact →
      s.present p
        = { s.noted p with
            rooms := s.roomsShowing r .entry .denied
            reports := s.reports.offerRoutine (.verdict
              { s.verdictOn p (some (r, .entry)) .deny .alreadyInside with permitNumber := permitNumber }) }) ∧
    ((s.roomSettings r).passback = .soft ∨ (s.room q.room).rollState ≠ .exact →
      (s.roll.map Presence.credential).Nodup →
      let readmitted :=
        ({ s with
            reports := s.reports.offerAlarm
              { minute := s.clock.minute, second := s.clock.second, room := some r, credential := some p.credential
                station := some (fieldAddress p.reader), repeats := 0
                detail := .passback q.room q.entryMinute } } : State).departed
          q.room (fun x => x.credential == p.credential) .passback
      readmitted.offRoll p.credential ∧ s.present p = readmitted.present p)) ∧
  (∀ (r : RoomId) (p : Presentation) (w : Permit) (index : Nat) (reason : Reason) (s : State), s.reachesLock r p w →
    (w.lock = .off ∨ w.lock = .learn ∨ w.lock = .fixed p.issueLevel) →
    chooseGrant s.settings.part (s.room r).zoneIndex s.clock.minute w.grants = none →
    denialOf s.settings.part (s.room r).zoneIndex s.clock.minute w.grants = some (index, reason) →
    s.present p
      = { s.noted p with
          rooms := s.roomsShowing r .entry .denied
          reports := s.reports.offerRoutine (.verdict
            { s.verdictOn p (some (r, .entry)) .deny reason with
              permitNumber := some w.permitNumber, grantIndex := some index }) }) ∧
  (∀ (r : RoomId) (p : Presentation) (w : Permit) (y : Party) (m : Member) (s : State),
    s.placeOf (fieldAddress p.reader) = some (r, .entryReader) → s.lets p → validCredential p.credential = true →
    (s.room r).mode ≠ .locked → (s.door r).state ≠ .fault → (s.door r).state ≠ .faultHold →
    s.staffOf p.credential = none → s.permitOf p.credential = some w →
    s.slot r = .party y → y.members.find? (fun x => x.credential == p.credential) = some m →
    s.present p
      = { s.noted p with
          reports := s.reports.offerRoutine (.verdict
            { s.verdictOn p (some (r, .entry)) .pending .none with
              permitNumber := some m.permitNumber, grantIndex := some m.grantIndex, allowance := some m.allowance
              partySize := some y.members.length }) }) ∧
  (∀ (p : Presentation) (s : State), s.lets p →
    (∀ r, s.placeOf (fieldAddress p.reader) = some (r, .exitReader) → validCredential p.credential = false →
      s.present p
        = { s.noted p with
            doors := (s.release r .exit).doors
            rooms := s.roomsShowing r .exit .granted
            reports := s.reports.offerRoutine (.verdict
              (s.verdictOn p (some (r, .exit)) .exitUnmatched .badCredential)) }) ∧
    ((∀ r, s.placeOf (fieldAddress p.reader) ≠ some (r, .entryReader) ∧
        s.placeOf (fieldAddress p.reader) ≠ some (r, .exitReader)) →
      (validCredential p.credential = false →
        s.present p
          = { s.noted p with
              reports := s.reports.offerRoutine (.verdict (s.verdictOn p none .deny .badCredential)) }) ∧
      (validCredential p.credential = true →
        (s.settings.part.readerPolicy = .forward → s.present p
          = { s.noted p with
              reports := s.reports.offerRoutine (.carryUpPresentation s.clock.minute s.clock.second
                (fieldAddress p.reader) p.credential p.issueLevel p.intent) }) ∧
        (s.settings.part.readerPolicy = .drop → s.present p = s.noted p))))

/-- A contractor whose chosen grant has rule NONE, at any room but one whose PAIR party it completes, is admitted alone: the presence
record with the stay deadline T + A at the end of the roll, the grant notice to the permit, the entry program, the GRANTED overlay and
the VERDICT item; the lone condition of the room is evaluated, and the check-in deadline of a lone worker is set. A lead or a party of
the room stays as it is, and a party at another room that the contractor was in loses it without a verdict. A room or a roll that is
full gives the denial, which leaves a party elsewhere (04 R71, R74, R75, 05 R99, 01 R16, 06 R103, R104, R110). -/
def Obligations.ContractorIsAdmittedAlone : Prop :=
  ∀ (r : RoomId) (p : Presentation) (w : Permit) (c : Chosen) (s : State), s.reachesChoice r p w →
    chooseGrant s.settings.part (s.room r).zoneIndex s.clock.minute w.grants = some c → c.rule = .none →
    (∀ y, s.slot r = .party y → y.rule ≠ .pair w.company) →
    let limit := (s.roomSettings r).occupancyLimit
    let interval := (s.roomSettings r).checkInInterval
    let verdict := fun (outcome : VerdictOutcome) (reason : Reason) =>
      { s.verdictOn p (some (r, .entry)) outcome reason with
        permitNumber := some w.permitNumber, grantIndex := some c.index }
    let part : ContractorPart :=
      { permitNumber := w.permitNumber, grantIndex := c.index, rule := .none, company := w.company
        stayDeadline := min (s.clock.minute + c.allowance) 4294967295, checkIn := .absent, escort := none, partner := none
        overstayRaised := false, checkInOverdue := 0, unescorted := false, withdrawn := false }
    let record := fun (x : ContractorPart) =>
      ({ room := r, credential := p.credential, entryMinute := s.clock.minute, entrySecond := s.clock.second
         contractor := some x } : Presence)
    (s.roomCount r < limit → s.roll.length < 64 →
      let roll := s.rollWith r [record part]
      s.present p
        = { s.noted p with
            roll := roll
            permits := s.permits.map fun x =>
              if x.credential = p.credential then x.afterGrant p.issueLevel s.clock.minute else x
            slots := s.slotsElsewhere r fun x => x.lessMember p.credential
            doors := (s.release r .entry).doors
            rooms := s.roomsShowing r .entry .granted
            reports := s.reports.offerRoutine (.verdict
              { verdict .grant .none with allowance := some c.allowance }) } ∧
      (∀ x ∈ s.roll, x.room ≠ r → x ∈ roll) ∧
      (s.roomCount r = 0 → roll = s.roll ++ [record { part with
        checkIn := if 0 < interval then .armed (min (s.clock.minute + interval) 4294967295) else .absent }])) ∧
    (limit ≤ s.roomCount r ∨ 64 ≤ s.roll.length →
      s.present p
        = { s.noted p with
            rooms := s.roomsShowing r .entry .denied
            reports := s.reports.offerRoutine (.verdict
              (verdict .deny (if limit ≤ s.roomCount r then .roomFull else .rollFull))) })

/-- The decisions that need company. A contractor who finds no lead to use starts a party (05 R83) or joins a STAFF party with a place,
and is denied PARTY_FULL or PARTY_BUSY at another (05 R84); a second contractor of the firm of a PAIR party completes the pair, or both
are denied where 2 have no place (05 R86, R87); a contractor joins a lead it can use, as one more of an ENTERED lead or together with
the member of staff of a WAITING one (04 R72). A contractor who is granted, or starts or joins a party, leaves a party at another room
without a verdict (05 R85, R99). A member of staff without a presence record who meets no party and may enter alone goes in, and an
ENTERED lead opens, in place of an ENTERED lead or of its own WAITING one; one who may not waits as a lead; at another's WAITING lead
the one goes in without a lead and the other is denied PARTY_BUSY (04 R63); and a WAITING lead of its own elsewhere is cleared (04 R64).
A member of staff who meets a party collects it: as many members as the ratio, the room and the roll have places for go in, in member order, the others are denied,
and an ENTERED lead opens; or everyone is denied where the member of staff has no place (05 R88 to R90, R101). That the verdict of the
completing member of staff carries the party size is the model's reading of 04 R78 (log 23). The new records and the grant notices
are those of 06 R103, R104 and 01 R16. -/
def Obligations.PartiesFormAndAreCollected : Prop :=
  (∀ (r : RoomId) (p : Presentation) (w : Permit) (c : Chosen) (s : State), s.reachesChoice r p w →
    chooseGrant s.settings.part (s.room r).zoneIndex s.clock.minute w.grants = some c →
    let me := p.asMember w c
    let limit := (s.roomSettings r).occupancyLimit
    let leftElsewhere := s.slotsElsewhere r fun x => x.lessMember p.credential
    let about := fun (outcome : VerdictOutcome) (reason : Reason) =>
      { s.verdictOn p (some (r, .entry)) outcome reason with
        permitNumber := some w.permitNumber, grantIndex := some c.index }
    let pending := fun (size : Nat) => { about .pending .none with allowance := some c.allowance, partySize := some size }
    let denied := fun (reason : Reason) =>
      { s.noted p with
        rooms := s.roomsShowing r .entry .denied
        reports := s.reports.offerRoutine (.verdict (about .deny reason)) }
    (c.rule ≠ .none → (s.slot r = .empty ∨ ∃ l, s.slot r = .lead l ∧ s.cannotUse r l) →
      s.present p
        = { s.noted p with
            slots := put leftElsewhere r (.party
              { rule := if c.rule = .pair then .pair w.company else .staff
                members := [me]
                window := countdownFrom s.now (s.settings.part.escortWindow * 1000) })
            reports := s.reports.offerRoutine (.verdict (pending 1)) }) ∧
    (∀ y, s.slot r = .party y → c.rule ≠ .none →
      (y.rule = .staff → y.members.length < 4 → s.present p
        = { s.noted p with
            slots := put leftElsewhere r (.party { y with members := y.members ++ [me] })
            reports := s.reports.offerRoutine (.verdict (pending (y.members.length + 1))) }) ∧
      (y.rule = .staff → 4 ≤ y.members.length → s.present p = denied .partyFull) ∧
      (∀ company, y.rule = .pair company → c.rule = .staff ∨ w.company ≠ company → s.present p = denied .partyBusy)) ∧
    (∀ y m, s.slot r = .party y → y.rule = .pair w.company → y.members = [m] → c.rule ≠ .staff →
      (s.roomCount r + 2 ≤ limit → s.roll.length + 2 ≤ 64 → s.present p
        = { s.noted p with
            roll := s.rollWith r
              [s.entrant r m none (some p.credential), s.entrant r me none (some m.credential)]
            permits := s.noticed [m, me]
            slots := put leftElsewhere r .empty
            doors := (s.release r .entry).doors
            rooms := s.roomsShowing r .entry .granted
            reports := s.reports.offerVerdicts
              [{ s.verdictOfMember r m 1 .grant .none with escort := some p.credential, allowance := some m.allowance },
               { about .grant .none with
                 escort := some m.credential, allowance := some c.allowance, partySize := some 1 }] }) ∧
      (limit < s.roomCount r + 2 ∨ 64 < s.roll.length + 2 →
        let reason := if limit < s.roomCount r + 2 then Reason.roomFull else .rollFull
        s.present p
          = { s.noted p with
              slots := put s.slots r .empty
              rooms := s.roomsShowing r .entry .denied
              reports := s.reports.offerVerdicts
                [s.verdictOfMember r m 1 .deny reason, { about .deny reason with partySize := some 1 }] })) ∧
    (∀ l u, s.slot r = .lead l → s.staffOf l.staff = some u → u.active = true → c.rule ≠ .none →
      (∀ x, l.kind = .entered → s.presenceOf l.staff = some x → x.room = r → s.linkedCount l.staff < u.ratio →
        (s.roomCount r + 1 ≤ limit → s.roll.length + 1 ≤ 64 → s.present p
          = { s.noted p with
              roll := s.rollWith r [s.entrant r me (some l.staff) none]
              permits := s.noticed [me]
              slots := leftElsewhere
              doors := (s.release r .entry).doors
              rooms := s.roomsShowing r .entry .granted
              reports := s.reports.offerVerdicts
                [{ about .grant .none with escort := some l.staff, allowance := some c.allowance }] }) ∧
        (limit < s.roomCount r + 1 ∨ 64 < s.roll.length + 1 → s.present p
          = denied (if limit < s.roomCount r + 1 then .roomFull else .rollFull))) ∧
      (l.kind = .waiting →
        (s.roomCount r + 2 ≤ limit → s.roll.length + 2 ≤ 64 → s.present p
          = { s.noted p with
              roll := s.rollWith r [s.staffEntrant r l.staff, s.entrant r me (some l.staff) none]
              permits := s.noticed [me]
              slots := put (s.slotsElsewhere r fun x => (x.lessMember p.credential).lessWaiting l.staff) r
                (s.freshLead l.staff .entered l.issueLevel)
              doors := (s.release r .entry).doors
              rooms := s.roomsShowing r .entry .granted
              reports := s.reports.offerVerdicts
                [{ minute := s.clock.minute, second := s.clock.second, stale := s.clock.timeState == .stale
                   place := some (r, .entry), reader := (s.roomSettings r).entryReader, credential := l.staff
                   issueLevel := l.issueLevel, intent := none, outcome := .grant, reason := .none, permitNumber := none
                   grantIndex := none, escort := none, allowance := none, partySize := none, removed := none },
                 { about .grant .none with escort := some l.staff, allowance := some c.allowance }] }) ∧
        (limit < s.roomCount r + 2 ∨ 64 < s.roll.length + 2 → s.present p
          = denied (if limit < s.roomCount r + 2 then .roomFull else .rollFull))))) ∧
  (∀ (r : RoomId) (p : Presentation) (u : Staff) (s : State), s.reachesStaff r p u →
    let limit := (s.roomSettings r).occupancyLimit
    let about := fun (outcome : VerdictOutcome) (reason : Reason) => s.verdictOn p (some (r, .entry)) outcome reason
    let clearElsewhere := s.slotsElsewhere r fun x => x.lessWaiting p.credential
    let denied := fun (reason : Reason) =>
      { s.noted p with
        rooms := s.roomsShowing r .entry .denied
        reports := s.reports.offerRoutine (.verdict (about .deny reason)) }
    (s.offRoll p.credential →
      let goesIn := fun slots : Vector Slot 6 =>
        (s.roomCount r + 1 ≤ limit → s.roll.length + 1 ≤ 64 → s.present p
          = { s.noted p with
              roll := s.rollWith r [s.staffEntrant r p.credential]
              slots := slots
              doors := (s.release r .entry).doors
              rooms := s.roomsShowing r .entry .granted
              reports := s.reports.offerRoutine (.verdict (about .grant .none)) }) ∧
        (limit < s.roomCount r + 1 ∨ 64 < s.roll.length + 1 → s.present p
          = denied (if limit < s.roomCount r + 1 then .roomFull else .rollFull))
      (s.slot r = .empty ∨ (∃ l, s.slot r = .lead l ∧ (l.kind = .entered ∨ l.staff = p.credential)) →
        (u.mayEnterAlone = true → goesIn (put clearElsewhere r (s.freshLead p.credential .entered p.issueLevel))) ∧
        (u.mayEnterAlone = false → s.present p
          = { s.noted p with
              slots := put clearElsewhere r (s.freshLead p.credential .waiting p.issueLevel)
              reports := s.reports.offerRoutine (.verdict (about .pendingLead .none)) })) ∧
      (∀ l, s.slot r = .lead l → l.kind = .waiting → l.staff ≠ p.credential →
        (u.mayEnterAlone = true → goesIn clearElsewhere) ∧
        (u.mayEnterAlone = false → s.present p = denied .partyBusy))) ∧
    (∀ y, s.slot r = .party y → y.members ≠ [] →
      let size := y.members.length
      (s.offRoll p.credential →
        (s.roomCount r + 1 ≤ limit → s.roll.length + 1 ≤ 64 →
          let b := s.completionBounds r u 1
          let goingIn := y.members.take (b.count size)
          s.present p
            = { s.noted p with
                roll := s.rollWith r
                  (s.staffEntrant r p.credential :: goingIn.map fun m => s.entrant r m (some p.credential) none)
                permits := s.noticed goingIn
                slots := put clearElsewhere r (s.freshLead p.credential .entered p.issueLevel)
                doors := (s.release r .entry).doors
                rooms := s.roomsShowing r .entry (if b.count size = size then .granted else .denied)
                reports := s.reports.offerVerdicts
                  ({ about .grant .none with partySize := some size }
                    :: s.verdictsOfCompletion r p.credential b y.members) }) ∧
        (limit < s.roomCount r + 1 ∨ 64 < s.roll.length + 1 →
          let reason := if limit < s.roomCount r + 1 then Reason.roomFull else .rollFull
          s.present p
            = { s.noted p with
                slots := put s.slots r .empty
                rooms := s.roomsShowing r .entry .denied
                reports := s.reports.offerVerdicts
                  ({ about .deny reason with partySize := some size }
                    :: y.members.map fun m => s.verdictOfMember r m size .deny reason) })) ∧
      (∀ x, s.presenceOf p.credential = some x → x.room = r →
        let b := s.completionBounds r u 0
        let goingIn := y.members.take (b.count size)
        s.present p
          = { s.noted p with
              roll := s.rollWith r (goingIn.map fun m => s.entrant r m (some p.credential) none)
              permits := s.noticed goingIn
              slots := put clearElsewhere r (s.freshLead p.credential .entered p.issueLevel)
              doors := if goingIn = [] then s.doors else (s.release r .entry).doors
              rooms := s.roomsShowing r .entry (if b.count size = size then .granted else .denied)
              reports := s.reports.offerVerdicts (s.verdictsOfCompletion r p.credential b y.members) })))

/-- Every exit presentation starts the exit program and shows GRANTED: EXIT takes the record off this room, EXIT_OTHER off another
room, whose roll state becomes UNCERTAIN, and EXIT_UNMATCHED changes no record (04 R76). A CHECKIN starts no program: it resets the
record's count and deadline, or is CHECKIN_UNMATCHED with the DENIED overlay (04 R77). The removal is a departure: the contractors of
a member of staff are relinked or left UNESCORTED with ESCORT_LEFT and an ENTERED lead ends, a partner's link is cleared with
PARTNER_LEFT, and the lone condition is evaluated (06 R106 to R108, in `State.departed`). -/
def Obligations.ExitsTakeOffTheRoll : Prop :=
  ∀ (r : RoomId) (p : Presentation) (s : State), s.placeOf (fieldAddress p.reader) = some (r, .exitReader) → s.lets p →
    validCredential p.credential = true → (s.roll.map Presence.credential).Nodup →
    let shown := s.roomsShowing r .exit
    let verdict := s.verdictOn p (some (r, .exit))
    (p.intent = .pass →
      (s.offRoll p.credential → s.present p
        = { s.noted p with
            doors := (s.release r .exit).doors, rooms := shown .granted
            reports := s.reports.offerRoutine (.verdict (verdict .exitUnmatched .none)) }) ∧
      (∀ q, s.presenceOf p.credential = some q →
        let left := s.departed q.room (fun x => x.credential == p.credential) (if q.room = r then .exit else .exitOther)
        s.present p
          = { s.noted p with
              doors := (s.release r .exit).doors
              rooms := if q.room = r then shown .granted
                else put (shown .granted) q.room { s.room q.room with rollState := .uncertain }
              roll := left.roll
              slots := left.slots
              reports := left.reports.offerRoutine (.verdict
                { verdict (if q.room = r then .exit else .exitOther) .none with
                  permitNumber := q.contractor.map ContractorPart.permitNumber
                  grantIndex := q.contractor.map ContractorPart.grantIndex
                  removed := some (q.room, q.entryMinute) }) } ∧
        left.roll.map (fun x => (x.room, x.credential)) =
          (s.roll.filter fun x => x.credential != p.credential).map (fun x => (x.room, x.credential)) ∧
        (∀ x, x ≠ q.room → left.slot x = s.slot x) ∧
        left.reports.routine = s.reports.routine)) ∧
    (p.intent = .checkIn →
      (∀ q, s.presenceOf p.credential = some q → q.room = r → s.present p
        = { s.noted p with
            rooms := shown .granted
            roll := s.roll.map fun x => if x.credential = p.credential then
              { x with contractor := x.contractor.map fun k =>
                { k with
                  checkInOverdue := 0
                  checkIn := if k.checkIn = .absent then .absent
                    else .armed (min (s.clock.minute + (s.roomSettings r).checkInInterval) 4294967295) } }
              else x
            reports := s.reports.offerRoutine (.verdict (verdict .checkInOk .none)) }) ∧
      ((∀ q, s.presenceOf p.credential = some q → q.room ≠ r) → s.present p
        = { s.noted p with
            rooms := shown .denied
            reports := s.reports.offerRoutine (.verdict (verdict .checkInUnmatched .none)) }))

/-! ## Windows, zones and the choice of a grant -/

/-- The arithmetic of daily windows (02 R33, R34), the allowance of a grant that applies (02 R38) and the zone test (03 R43),
each stated whole. -/
def Obligations.WindowsZonesAndAllowance : Prop :=
  (∀ o c : Nat, o ≤ 1439 → 1 ≤ c → c ≤ 1440 →
    let l := windowLength o c
    1 ≤ l ∧ l ≤ 1440 ∧
    (o < c → c ≤ 1439 → l = c - o) ∧ (o < c → c = 1440 → l = 1440 - o) ∧ (c < o → l = c + 1440 - o) ∧ (c = o → l = 1440) ∧
    (∀ m : Nat, m ≤ 1439 → windowElapsed o m ≤ 1439 ∧
      (o ≤ m → windowElapsed o m = m - o) ∧ (m < o → windowElapsed o m = m + 1440 - o) ∧
      (l = 1440 → windowElapsed o m < l ∧ (m + (l - windowElapsed o m)) % 1440 = o)) ∧
    (c ≤ 1439 → l < 1440 → l ≤ windowElapsed o c)) ∧
  windowLength 0 0 = 1440 ∧ windowLength 0 1440 = 1440 ∧
  (∀ (g : Grant) (t : Nat), g.inRange →
    (inDailyWindow g t = true ↔ windowElapsed g.opens (t % 1440) < windowLength g.opens g.closes) ∧
    (inDailyWindow g t = true →
      dailyRemaining g t = windowLength g.opens g.closes - windowElapsed g.opens (t % 1440) ∧
      1 ≤ dailyRemaining g t ∧ dailyRemaining g t ≤ 1440)) ∧
  (∀ (part : PartSettings) (zone : Nat) (g : Grant) (t : Nat), g.inRange → applies part zone g t = true →
    allowanceOf g t = min g.maxStay (min (dailyRemaining g t) (g.validUntil - t)) ∧
    1 ≤ allowanceOf g t ∧ allowanceOf g t ≤ 720 ∧ t + allowanceOf g t ≤ g.validUntil) ∧
  (∀ (part : PartSettings) (code : Nat), zoneIndexOf part code < part.groupMode.size) ∧
  (∀ (zone : Nat) (mask : ZoneMask),
    (zone < 16 → zoneTest .groups16 zone mask = mask.getLsbD zone) ∧
    (zone < 32 → zoneTest .groups32 zone mask = mask.getLsbD zone) ∧
    ((∀ b, b < 16 → mask.getLsbD b = false) → zoneTest .groups16 zone mask = false)) ∧
  (∀ s t : State, exec .setPart s = .next t → t.permits = s.permits ∧ t.roster = s.roster)

/-- A grant applies exactly when its four tests pass: zone, date window, the weekday of the day its daily window opened on, and daily
window (02 R32, R35 to R37). The choice among the grants that apply: the least demanding rule, then the largest allowance, then the lowest index (04 R68);
and where none applies, the stage of each grant and the denial of the highest stage at the lowest index (04 R69). -/
def Obligations.GrantIsChosenByThreeKeys : Prop :=
  ∀ (part : PartSettings) (zone : Nat) (t : Nat) (grants : List Grant),
    let demand : EscortRule → Nat := fun rule => match rule with
      | .none => 0
      | .pair => 1
      | .staff => 2
    (∀ g : Grant, applies part zone g t = true ↔
      zoneTest part.groupMode zone g.zoneMask = true ∧ g.validFrom ≤ t ∧ t < g.validUntil ∧
      (let today := (t / 1440 + part.epochWeekday) % 7
       g.weekdays.getLsbD (if g.opens ≤ t % 1440 then today else (today + 6) % 7) = true) ∧
      inDailyWindow g t = true) ∧
    (chooseGrant part zone t grants = none ↔ ∀ g ∈ grants, applies part zone g t = false) ∧
    (∀ c : Chosen, chooseGrant part zone t grants = some c ↔
      ∃ (i : Nat) (g : Grant), grants[i]? = some g ∧ applies part zone g t = true ∧
        c = { index := i + 1, rule := g.rule, allowance := allowanceOf g t } ∧
        ∀ (j : Nat) (h : Grant), grants[j]? = some h → applies part zone h t = true → j ≠ i →
          demand g.rule < demand h.rule ∨
          (demand g.rule = demand h.rule ∧
            (allowanceOf h t < allowanceOf g t ∨ (allowanceOf h t = allowanceOf g t ∧ i < j)))) ∧
    (∀ g : Grant,
      (zoneTest part.groupMode zone g.zoneMask = false → grantStage part zone g t = (1, .wrongZone)) ∧
      (zoneTest part.groupMode zone g.zoneMask = true →
        (t < g.validFrom → grantStage part zone g t = (2, .notYetValid)) ∧
        (g.validFrom ≤ t → g.validUntil ≤ t → grantStage part zone g t = (2, .expired)) ∧
        (g.validFrom ≤ t → t < g.validUntil → grantStage part zone g t = (3, .outsideHours)))) ∧
    (∀ (i : Nat) (reason : Reason), denialOf part zone t grants = some (i, reason) ↔
      ∃ (n : Nat) (g : Grant), i = n + 1 ∧ grants[n]? = some g ∧ reason = (grantStage part zone g t).2 ∧
        ∀ (j : Nat) (h : Grant), grants[j]? = some h → j ≠ n →
          (grantStage part zone h t).1 < (grantStage part zone g t).1 ∨
          ((grantStage part zone h t).1 = (grantStage part zone g t).1 ∧ n < j))

/-! ## The alarm queue -/

/-- An alarm that finds no place is discarded and sets the alarm-overflow flag, while a waiting alarm of its key takes it in even
in a full queue; the flag is clear at every reset and, once set, stays set through every other command until READ STATUS, which
reports it as it stood and clears it (10 R172). -/
def Obligations.AlarmOverflowStaysUntilReadStatus : Prop :=
  (∀ (q : Reports) (a : Alarm), 16 ≤ q.alarms.length → (∀ b ∈ q.alarms, b.key ≠ a.key) →
    q.offerAlarm a = { q with overflow := true }) ∧
  (∀ (q : Reports) (a b : Alarm) (before after : List Alarm), q.alarms = before ++ b :: after → b.key = a.key →
    (∀ x ∈ before ++ after, x.key ≠ a.key) →
    q.offerAlarm a = { q with
      alarms := before ++ { b with repeats := min (b.repeats + 1) 255, detail := a.detail } :: after }) ∧
  (∀ (q : Reports) (a : Alarm), q.alarms.length < 16 → (∀ b ∈ q.alarms, b.key ≠ a.key) →
    q.offerAlarm a = { q with alarms := q.alarms ++ [a] }) ∧
  (∀ (cut : WriteCut) (moment : Nat) (answers : Bool) (s t : State),
    (exec (.powerOnReset cut) s = .next t ∨ (s.phase = .running ∧ s.executor = .restartSent ∧ exec .restartReset s = .next t) ∨
      ((∃ kind, s.phase = .settingsLoad kind) ∧ exec (.settingsLoadEnd moment answers) s = .next t)) →
    t.reports.overflow = false) ∧
  (∀ (c : Instr) (s t : State), c ≠ .readStatus → c ≠ .restartReset → (∀ cut, c ≠ .powerOnReset cut) →
    (∀ moment answers, c ≠ .settingsLoadEnd moment answers) →
    s.reports.overflow = true → exec c s = .next t → t.reports.overflow = true) ∧
  (∀ (tag : Nat) (rest : List Request) (s : State), s.atHead tag 23 [] rest →
    ∃ (t : State) (picture : StatusPicture), exec .readStatus s = .next (t.plusAnswer tag 23 .done (.status picture)) ∧
      picture.overflow = s.reports.overflow ∧ t.reports.overflow = false)
end

