-- ==== Sys2Proof/Laws/Bytes.lean ====
section
/-! SUPPORT. Numbers written as bytes are read back: the lemmas that every statement about a request's fields rests on. -/

namespace Sys2Proof.Machine

@[simp] theorem bytesOf_length (n x : Nat) : (bytesOf n x).length = n := by
  induction n with
  | zero => rfl
  | succ n ih => simp [bytesOf, ih]

theorem foldl_bytesOf (n x acc : Nat) :
    (bytesOf n x).foldl (fun a (b : Byte) => a * 256 + b.toNat) acc = acc * 256 ^ n + x % 256 ^ n := by
  induction n generalizing acc with
  | zero => simp [bytesOf, Nat.mod_one]
  | succ n ih =>
    rw [bytesOf, List.foldl_cons, ih, BitVec.toNat_ofNat]
    have h : x % 256 ^ (n + 1) = 256 ^ n * (x / 256 ^ n % 256) + x % 256 ^ n := by
      rw [pow_succ, Nat.mod_mul]
      ring
    rw [h]
    norm_num
    ring

/-- A number written as `n` bytes reads back modulo `256 ^ n`. -/
theorem numberOf_bytesOf_mod (n x : Nat) : numberOf (bytesOf n x) = x % 256 ^ n := by
  simpa [numberOf] using foldl_bytesOf n x 0

/-- A number that fits its bytes reads back. -/
theorem numberOf_bytesOf {n x : Nat} (h : x < 256 ^ n) : numberOf (bytesOf n x) = x := by
  rw [numberOf_bytesOf_mod, Nat.mod_eq_of_lt h]

/-- Bytes never spell more than their length allows. -/
theorem numberOf_lt (bytes : List Byte) : numberOf bytes < 256 ^ bytes.length := by
  have key : ∀ (l : List Byte) (acc : Nat),
      l.foldl (fun a (b : Byte) => a * 256 + b.toNat) acc < (acc + 1) * 256 ^ l.length := by
    intro l
    induction l with
    | nil => intro acc; simp
    | cons b l ih =>
      intro acc
      have hb : b.toNat < 256 := b.isLt
      calc List.foldl (fun a (b : Byte) => a * 256 + b.toNat) acc (b :: l)
          = l.foldl (fun a (b : Byte) => a * 256 + b.toNat) (acc * 256 + b.toNat) := rfl
        _ < (acc * 256 + b.toNat + 1) * 256 ^ l.length := ih _
        _ ≤ ((acc + 1) * 256) * 256 ^ l.length := Nat.mul_le_mul_right _ (by omega)
        _ = (acc + 1) * 256 ^ (b :: l).length := by rw [List.length_cons, pow_succ]; ring
  simpa [numberOf] using key bytes 0

theorem take_append_length {α : Type} {a : List α} {n : Nat} (b : List α) (h : a.length = n) : (a ++ b).take n = a := by
  subst h
  simp

theorem drop_append_length {α : Type} {a : List α} {n : Nat} (b : List α) (h : a.length = n) : (a ++ b).drop n = b := by
  subst h
  simp

/-- Reading a field that was written takes its bytes and goes on with the rest. -/
theorem readFields_bytesOf (p n x : Nat) (sizes : List Nat) (rest : List Byte) (h : x < 256 ^ n) :
    readFields p (n :: sizes) (bytesOf n x ++ rest)
      = (readFields (p + 1) sizes rest).map fun v => (x :: v.1, v.2) := by
  rw [readFields, take_append_length rest (bytesOf_length n x), drop_append_length rest (bytesOf_length n x),
    numberOf_bytesOf h]
  cases readFields (p + 1) sizes rest <;> simp [Except.map]

/-- A request of one field that was written reads back. -/
theorem readAll_one {n x : Nat} (h : x < 256 ^ n) : readAll [n] (bytesOf n x) = .ok [x] := by
  have key := readFields_bytesOf 1 n x [] [] h
  rw [List.append_nil] at key
  rw [readAll, key]
  rfl

/-- A valid credential fits its four bytes. -/
theorem credential_fits {c : Nat} (h : validCredential c = true) : c < 256 ^ 4 := by
  simp only [validCredential, within, Config.lastCredential, Bool.and_eq_true, decide_eq_true_eq] at h
  have hc : c ≤ 4294967294 := of_decide_eq_true h.2
  calc c ≤ 4294967294 := hc
    _ < 256 ^ 4 := by norm_num

/-- A request that names a valid credential reads as that credential. -/
theorem credentialField_bytesOf {c : Nat} (h : validCredential c = true) : credentialField (bytesOf 4 c) = .ok c := by
  simp [credentialField, readAll_one (credential_fits h), h]

end Sys2Proof.Machine
end

