-- ==== Sys2Proof/Laws/Keeps.lean ====
section
/-! SUPPORT. What each shared operation can change. `Keeps touched s t` says that every field of State outside `touched` is the
same in `t` as in `s`; each operation has one lemma that names the fields it can touch. To use one:
`(issue_keeps s v) .doors (by decide)` proves that the doors are unchanged. -/

namespace Sys2Proof.Machine

set_option Elab.async false

/-- The fields of State. -/
inductive Field where
  | pending
  | phase
  | now
  | serial
  | memory
  | loadResult
  | settings
  | retired
  | permits
  | roster
  | clock
  | rooms
  | slots
  | roll
  | doors
  | stations
  | field
  | trunk
  | executor
  | reports
  | lastSeen
  deriving DecidableEq, Repr

/-- One field is the same in two states. -/
def Field.same (s t : State) : Field → Prop
  | .pending => t.pending = s.pending
  | .phase => t.phase = s.phase
  | .now => t.now = s.now
  | .serial => t.serial = s.serial
  | .memory => t.memory = s.memory
  | .loadResult => t.loadResult = s.loadResult
  | .settings => t.settings = s.settings
  | .retired => t.retired = s.retired
  | .permits => t.permits = s.permits
  | .roster => t.roster = s.roster
  | .clock => t.clock = s.clock
  | .rooms => t.rooms = s.rooms
  | .slots => t.slots = s.slots
  | .roll => t.roll = s.roll
  | .doors => t.doors = s.doors
  | .stations => t.stations = s.stations
  | .field => t.field = s.field
  | .trunk => t.trunk = s.trunk
  | .executor => t.executor = s.executor
  | .reports => t.reports = s.reports
  | .lastSeen => t.lastSeen = s.lastSeen

/-- Every field outside `touched` is the same. -/
def Keeps (touched : List Field) (s t : State) : Prop := ∀ f, f ∉ touched → f.same s t

theorem Keeps.refl (fs : List Field) (s : State) : Keeps fs s s := by
  intro f _
  cases f <;> rfl

theorem Keeps.trans {fs : List Field} {s t u : State} (h : Keeps fs s t) (k : Keeps fs t u) : Keeps fs s u := by
  intro f hf
  have h1 := h f hf
  have h2 := k f hf
  cases f <;> exact Eq.trans h2 h1

theorem Keeps.mono {fs gs : List Field} {s t : State} (h : Keeps fs s t) (sub : ∀ f ∈ fs, f ∈ gs := by decide) :
    Keeps gs s t := fun f hf => h f fun hm => hf (sub f hm)

/-- A fold of an operation touches what the operation touches. -/
theorem Keeps.fold {α : Type} {fs : List Field} {op : State → α → State} (h : ∀ s x, Keeps fs s (op s x)) :
    ∀ (l : List α) (s : State), Keeps fs s (l.foldl op s)
  | [], s => Keeps.refl fs s
  | x :: l, s => (h s x).trans (Keeps.fold h l (op s x))

/-- Keeping through a choice between two states. -/
theorem Keeps.ite {fs : List Field} {s t u : State} {c : Prop} [Decidable c] (h : Keeps fs s t) (k : Keeps fs s u) :
    Keeps fs s (if c then t else u) := by
  split
  · exact h
  · exact k

/-! ## The setters -/

theorem withPhase_keeps (s : State) (x : Phase) : Keeps [.phase] s (s.withPhase x) := by
  intro f hf
  cases f <;> first | rfl | exact absurd (List.mem_singleton.mpr rfl) hf

theorem withNow_keeps (s : State) (x : Nat) : Keeps [.now] s (s.withNow x) := by
  intro f hf
  cases f <;> first | rfl | exact absurd (List.mem_singleton.mpr rfl) hf

theorem withMemory_keeps (s : State) (x : ConfigMemory) : Keeps [.memory] s (s.withMemory x) := by
  intro f hf
  cases f <;> first | rfl | exact absurd (List.mem_singleton.mpr rfl) hf

theorem withLoadResult_keeps (s : State) (x : LoadResult) : Keeps [.loadResult] s (s.withLoadResult x) := by
  intro f hf
  cases f <;> first | rfl | exact absurd (List.mem_singleton.mpr rfl) hf

theorem withSettings_keeps (s : State) (x : Settings) : Keeps [.settings] s (s.withSettings x) := by
  intro f hf
  cases f <;> first | rfl | exact absurd (List.mem_singleton.mpr rfl) hf

theorem withRetired_keeps (s : State) (x : RetiredMap) : Keeps [.retired] s (s.withRetired x) := by
  intro f hf
  cases f <;> first | rfl | exact absurd (List.mem_singleton.mpr rfl) hf

theorem withPermits_keeps (s : State) (x : List Permit) : Keeps [.permits] s (s.withPermits x) := by
  intro f hf
  cases f <;> first | rfl | exact absurd (List.mem_singleton.mpr rfl) hf

theorem withRoster_keeps (s : State) (x : List Staff) : Keeps [.roster] s (s.withRoster x) := by
  intro f hf
  cases f <;> first | rfl | exact absurd (List.mem_singleton.mpr rfl) hf

theorem withClock_keeps (s : State) (x : Clock) : Keeps [.clock] s (s.withClock x) := by
  intro f hf
  cases f <;> first | rfl | exact absurd (List.mem_singleton.mpr rfl) hf

theorem withRooms_keeps (s : State) (x : Vector RoomState 6) : Keeps [.rooms] s (s.withRooms x) := by
  intro f hf
  cases f <;> first | rfl | exact absurd (List.mem_singleton.mpr rfl) hf

theorem withSlots_keeps (s : State) (x : Vector Slot 6) : Keeps [.slots] s (s.withSlots x) := by
  intro f hf
  cases f <;> first | rfl | exact absurd (List.mem_singleton.mpr rfl) hf

theorem withRoll_keeps (s : State) (x : List Presence) : Keeps [.roll] s (s.withRoll x) := by
  intro f hf
  cases f <;> first | rfl | exact absurd (List.mem_singleton.mpr rfl) hf

theorem withDoors_keeps (s : State) (x : Vector Door 6) : Keeps [.doors] s (s.withDoors x) := by
  intro f hf
  cases f <;> first | rfl | exact absurd (List.mem_singleton.mpr rfl) hf

theorem withStations_keeps (s : State) (x : Vector StationState 16) : Keeps [.stations] s (s.withStations x) := by
  intro f hf
  cases f <;> first | rfl | exact absurd (List.mem_singleton.mpr rfl) hf

theorem withField_keeps (s : State) (x : FieldPort) : Keeps [.field] s (s.withField x) := by
  intro f hf
  cases f <;> first | rfl | exact absurd (List.mem_singleton.mpr rfl) hf

theorem withTrunk_keeps (s : State) (x : TrunkPort) : Keeps [.trunk] s (s.withTrunk x) := by
  intro f hf
  cases f <;> first | rfl | exact absurd (List.mem_singleton.mpr rfl) hf

theorem withExecutor_keeps (s : State) (x : Executor) : Keeps [.executor] s (s.withExecutor x) := by
  intro f hf
  cases f <;> first | rfl | exact absurd (List.mem_singleton.mpr rfl) hf

theorem withReports_keeps (s : State) (x : Reports) : Keeps [.reports] s (s.withReports x) := by
  intro f hf
  cases f <;> first | rfl | exact absurd (List.mem_singleton.mpr rfl) hf

theorem withLastSeen_keeps (s : State) (x : Vector (Option LastPresentation) 16) : Keeps [.lastSeen] s (s.withLastSeen x) := by
  intro f hf
  cases f <;> first | rfl | exact absurd (List.mem_singleton.mpr rfl) hf

theorem setRoom_keeps (s : State) (i : RoomId) (x : RoomState) : Keeps [.rooms] s (s.setRoom i x) := withRooms_keeps s _

theorem setSlot_keeps (s : State) (i : RoomId) (x : Slot) : Keeps [.slots] s (s.setSlot i x) := withSlots_keeps s _

theorem setDoor_keeps (s : State) (i : RoomId) (x : Door) : Keeps [.doors] s (s.setDoor i x) := withDoors_keeps s _

theorem setStation_keeps (s : State) (i : StationId) (x : StationState) : Keeps [.stations] s (s.setStation i x) := withStations_keeps s _

/-! ## Ops -/

theorem advance_keeps (s : State) (m : Nat) : Keeps [.now] s (s.advance m) := withNow_keeps s _

theorem raise_keeps (s : State) (r : Option RoomId) (c : Option Nat) (t : Option Nat) (d : AlarmDetail) :
    Keeps [.reports] s (s.raise r c t d) := withReports_keeps s _

theorem offerRoutine_keeps (s : State) (i : RoutineItem) : Keeps [.reports] s (s.offerRoutine i) := withReports_keeps s _

theorem answer_keeps (s : State) (r : Request) (status : Status) (data : AnswerData) :
    Keeps [.reports] s (s.answer r status data) := withReports_keeps s _

theorem setOverlay_keeps (s : State) (r : RoomId) (d : Direction) (i : OverlayImage) :
    Keeps [.rooms] s (s.setOverlay r d i) := by
  cases d
  · exact setRoom_keeps s r _
  · exact setRoom_keeps s r _

theorem showOutcome_keeps (s : State) (p : Option (RoomId × Direction)) (o : VerdictOutcome) :
    Keeps [.rooms] s (s.showOutcome p o) := by
  unfold State.showOutcome
  split
  · exact setOverlay_keeps s _ _ _
  · exact Keeps.refl _ s

theorem setRollState_keeps (s : State) (r : RoomId) (x : RollState) : Keeps [.rooms] s (s.setRollState r x) :=
  setRoom_keeps s r _

theorem recomputeZones_keeps (s : State) : Keeps [.rooms] s s.recomputeZones := withRooms_keeps s _

theorem leaveOtherParty_keeps (s : State) (r : RoomId) (c : Nat) : Keeps [.slots] s (s.leaveOtherParty r c) :=
  withSlots_keeps s _

theorem clearWaitingElsewhere_keeps (s : State) (r : RoomId) (c : Nat) :
    Keeps [.slots] s (s.clearWaitingElsewhere r c) := withSlots_keeps s _

theorem issue_keeps (s : State) (v : Verdict) : Keeps [.rooms, .reports] s (s.issue v) :=
  (showOutcome_keeps s _ _).mono.trans (offerRoutine_keeps _ _).mono

theorem issueSilently_keeps (s : State) (v : Verdict) : Keeps [.reports] s (s.issueSilently v) := offerRoutine_keeps s _

theorem denyMembers_keeps (s : State) (r : RoomId) (n : Nat) (x : Reason) (ms : List Member) :
    Keeps [.rooms, .reports] s (s.denyMembers r n x ms) := Keeps.fold (fun _ _ => issue_keeps _ _) ms s

theorem breakSlot_keeps (s : State) (r : RoomId) (x : Reason) : Keeps [.rooms, .slots, .reports] s (s.breakSlot r x) := by
  unfold State.breakSlot
  split
  · exact (denyMembers_keeps s _ _ _ _).mono.trans (setSlot_keeps _ _ _).mono
  · exact (setSlot_keeps s _ _).mono
  · exact Keeps.refl _ s

theorem grantNotice_keeps (s : State) (c : Nat) (n : Nat) : Keeps [.permits] s (s.grantNotice c n) :=
  withPermits_keeps s _

/-! ## Door Control -/

theorem release_keeps (s : State) (r : RoomId) (k : Direction) : Keeps [.doors] s (s.release r k) := by
  unfold State.release
  dsimp only
  split
  · exact Keeps.refl _ s
  · exact setDoor_keeps s _ _

theorem cancelProgram_keeps (s : State) (r : RoomId) : Keeps [.doors] s (s.cancelProgram r) := setDoor_keeps s _ _

theorem raiseDoor_keeps (s : State) (r : RoomId) (d : AlarmDetail) : Keeps [.reports] s (s.raiseDoor r d) :=
  raise_keeps s _ _ _ _

theorem enterFault_keeps (s : State) (r : RoomId) (c : FaultCause) :
    Keeps [.rooms, .slots, .doors, .reports] s (s.enterFault r c) :=
  ((setDoor_keeps s _ _).mono.trans (raiseDoor_keeps _ _ _).mono).trans (breakSlot_keeps _ _ _).mono

theorem driverOffline_keeps (s : State) (r : RoomId) : Keeps [.rooms, .slots, .doors, .reports] s (s.driverOffline r) := by
  unfold State.driverOffline
  split
  · exact Keeps.refl _ s
  · exact Keeps.refl _ s
  · exact enterFault_keeps s r _

theorem secureAgain_keeps (s : State) (r : RoomId) : Keeps [.doors] s (s.secureAgain r) := setDoor_keeps s _ _

theorem driverOnline_keeps (s : State) (r : RoomId) : Keeps [.doors] s (s.driverOnline r) :=
  Keeps.ite (secureAgain_keeps s r) (Keeps.refl _ s)

theorem doorOpened_keeps (s : State) (r : RoomId) : Keeps [.rooms, .doors, .reports] s (s.doorOpened r) := by
  unfold State.doorOpened
  dsimp only
  split
  · exact ((setDoor_keeps s _ _).mono.trans (raiseDoor_keeps _ _ _).mono).trans (setRollState_keeps _ _ _).mono
  · exact (setDoor_keeps s _ _).mono
  · exact Keeps.refl _ s

theorem doorClosed_keeps (s : State) (r : RoomId) : Keeps [.doors] s (s.doorClosed r) := by
  unfold State.doorClosed
  dsimp only
  split
  · exact setDoor_keeps s _ _
  · exact setDoor_keeps s _ _
  · exact setDoor_keeps s _ _
  · exact Keeps.refl _ s

theorem exitButton_keeps (s : State) (r : RoomId) : Keeps [.rooms, .doors] s (s.exitButton r) :=
  (release_keeps s _ _).mono.trans (setRollState_keeps _ _ _).mono

theorem driverFault_keeps (s : State) (r : RoomId) : Keeps [.rooms, .slots, .doors, .reports] s (s.driverFault r) :=
  Keeps.ite (Keeps.refl _ s) (enterFault_keeps s r _)

theorem faultCleared_keeps (s : State) (r : RoomId) : Keeps [.doors] s (s.faultCleared r) :=
  Keeps.ite (setDoor_keeps s _ _) (Keeps.refl _ s)

theorem driverEvent_keeps (s : State) (r : RoomId) (e : DriverEvent) :
    Keeps [.rooms, .slots, .doors, .reports] s (s.driverEvent r e) := by
  cases e
  · exact (doorOpened_keeps s r).mono
  · exact (doorClosed_keeps s r).mono
  · exact (exitButton_keeps s r).mono
  · exact (driverFault_keeps s r).mono
  · exact (faultCleared_keeps s r).mono

theorem driverEvents_keeps (s : State) (r : RoomId) (es : List DriverEvent) :
    Keeps [.rooms, .slots, .doors, .reports] s (s.driverEvents r es) := Keeps.fold (fun _ _ => driverEvent_keeps _ _ _) es s

theorem heldExpired_keeps (s : State) (r : RoomId) (c : Countdown) : Keeps [.doors, .reports] s (s.heldExpired r c) :=
  (setDoor_keeps s _ _).mono.trans (raiseDoor_keeps _ _ _).mono

theorem freshStart_keeps (s : State) (r : RoomId) : Keeps [.doors, .reports] s (s.freshStart r) :=
  Keeps.ite ((setDoor_keeps s _ _).mono.trans (raiseDoor_keeps _ _ _).mono) (setDoor_keeps s _ _).mono

theorem closeDown_keeps (s : State) (r : RoomId) : Keeps [.doors] s (s.closeDown r) := setDoor_keeps s _ _

/-! ## The Occupancy Roll -/

theorem changeRecord_keeps (s : State) (c : Nat) (f : ContractorPart → ContractorPart) :
    Keeps [.roll] s (s.changeRecord c f) := withRoll_keeps s _

theorem evaluateLone_keeps (s : State) (r : RoomId) : Keeps [.roll] s (s.evaluateLone r) := withRoll_keeps s _

theorem addRecords_keeps (s : State) (r : RoomId) (l : List Presence) : Keeps [.roll] s (s.addRecords r l) :=
  (withRoll_keeps s _).trans (evaluateLone_keeps _ _)

theorem relink_keeps (s : State) (r : RoomId) (d : Nat) (k : DepartureCause) (c : Nat) :
    Keeps [.roll, .reports] s (s.relink r d k c) := by
  unfold State.relink
  split
  · exact (changeRecord_keeps s _ _).mono
  · exact (changeRecord_keeps s _ _).mono.trans (raise_keeps _ _ _ _ _).mono

theorem endEnteredLead_keeps (s : State) (r : RoomId) (c : Nat) : Keeps [.slots] s (s.endEnteredLead r c) := by
  unfold State.endEnteredLead
  split
  · exact Keeps.ite (setSlot_keeps s _ _) (Keeps.refl _ s)
  · exact Keeps.refl _ s

theorem staffLeft_keeps (s : State) (r : RoomId) (c : Nat) (k : DepartureCause) :
    Keeps [.roll, .slots, .reports] s (s.staffLeft r c k) :=
  (Keeps.fold (fun _ _ => (relink_keeps _ _ _ _ _).mono) _ s).trans (endEnteredLead_keeps _ _ _).mono

theorem partnerLeft_keeps (s : State) (r : RoomId) (d p : Nat) (k : DepartureCause) :
    Keeps [.roll, .reports] s (s.partnerLeft r d p k) := by
  unfold State.partnerLeft
  split
  · exact Keeps.ite ((changeRecord_keeps s _ _).mono.trans (raise_keeps _ _ _ _ _).mono) (Keeps.refl _ s)
  · exact Keeps.refl _ s

theorem afterRemoval_keeps (s : State) (k : DepartureCause) (p : Presence) :
    Keeps [.roll, .slots, .reports] s (s.afterRemoval k p) := by
  unfold State.afterRemoval
  split
  · exact staffLeft_keeps s _ _ _
  · split
    · exact (partnerLeft_keeps s _ _ _ _).mono
    · exact Keeps.refl _ s

theorem depart_keeps (s : State) (r : RoomId) (g : Presence → Bool) (k : DepartureCause) :
    Keeps [.roll, .slots, .reports] s (s.depart r g k) :=
  ((withRoll_keeps s _).mono.trans (Keeps.fold (fun _ _ => afterRemoval_keeps _ _ _) _ _)).trans (evaluateLone_keeps _ _).mono

theorem departOne_keeps (s : State) (p : Presence) (k : DepartureCause) :
    Keeps [.roll, .slots, .reports] s (s.departOne p k) := depart_keeps s _ _ _

theorem raiseFor_keeps (s : State) (p : Presence) (d : AlarmDetail) : Keeps [.reports] s (s.raiseFor p d) :=
  raise_keeps s _ _ _ _

theorem stayCheck_keeps (s : State) (p : Presence) (t : Nat) : Keeps [.roll, .reports] s (s.stayCheck p t) := by
  unfold State.stayCheck
  split
  · exact Keeps.refl _ s
  · exact Keeps.ite ((changeRecord_keeps s _ _).mono.trans (raiseFor_keeps _ _ _).mono) (Keeps.refl _ s)

theorem checkInCheck_keeps (s : State) (p : Presence) (t : Nat) : Keeps [.roll, .reports] s (s.checkInCheck p t) := by
  unfold State.checkInCheck
  split
  · exact Keeps.refl _ s
  · split
    · refine Keeps.ite ?_ (Keeps.refl _ s)
      exact Keeps.ite ((changeRecord_keeps s _ _).mono.trans (raiseFor_keeps _ _ _).mono)
        ((changeRecord_keeps s _ _).mono.trans (raiseFor_keeps _ _ _).mono)
    · exact Keeps.refl _ s

theorem rollMinute_keeps (s : State) (t : Nat) : Keeps [.roll, .reports] s (s.rollMinute t) :=
  Keeps.fold (fun _ _ => (stayCheck_keeps _ _ _).trans (checkInCheck_keeps _ _ _)) s.roll s

theorem withdrawInside_keeps (s : State) (c : Nat) (x : PermitState) :
    Keeps [.roll, .reports] s (s.withdrawInside c x) := by
  unfold State.withdrawInside
  split
  · exact Keeps.refl _ s
  · split
    · exact Keeps.refl _ s
    · exact (changeRecord_keeps s _ _).mono.trans (raiseFor_keeps _ _ _).mono

/-! ## Decisions -/

/-- The fields that a decision can touch. -/
abbrev decided : List Field := [.permits, .rooms, .slots, .roll, .doors, .reports]

theorem passback_keeps (s t : State) (r : RoomId) (p : Presentation) (h : s.passback r p = some t) : Keeps decided s t := by
  unfold State.passback at h
  split at h
  · cases h
    exact Keeps.refl _ _
  · split at h
    · cases h
    · cases h
      exact (raise_keeps s _ _ _ _).mono.trans (departOne_keeps _ _ _).mono

theorem openLead_keeps (s : State) (r : RoomId) (c : Nat) (k : LeadKind) (n : Nat) :
    Keeps [.slots] s (s.openLead r c k n) := setSlot_keeps s _ _

theorem noticeMembers_keeps (s : State) (ms : List Member) : Keeps [.permits] s (s.noticeMembers ms) :=
  Keeps.fold (fun _ _ => grantNotice_keeps _ _ _) ms s

theorem completionVerdicts_keeps (r : RoomId) (n k : Nat) (b : Places) (c : Nat) :
    ∀ (ms : List Member) (i : Nat) (s : State), Keeps [.rooms, .reports] s (s.completionVerdicts r n k b c i ms)
  | [], _, s => Keeps.refl _ s
  | _ :: ms, i, s => (issue_keeps s _).trans (completionVerdicts_keeps r n k b c ms (i + 1) _)

theorem denyPlain_keeps (s : State) (r : RoomId) (p : Presentation) (x : Reason) :
    Keeps [.rooms, .reports] s (s.denyPlain r p x) := issue_keeps s _

theorem denyContractor_keeps (s : State) (r : RoomId) (p : Presentation) (n : Nat) (g : Option Nat) (x : Reason) :
    Keeps [.rooms, .reports] s (s.denyContractor r p n g x) := issue_keeps s _

theorem completeByStaff_keeps (s : State) (r : RoomId) (p : Presentation) (t : Staff) (y : Party) (o : Bool) :
    Keeps decided s (s.completeByStaff r p t y o) := by
  unfold State.completeByStaff
  dsimp only
  refine Keeps.trans ?_ (completionVerdicts_keeps _ _ _ _ _ _ _ _).mono
  have h : ∀ u : State, Keeps decided u (if o = true then
      u.issue { u.presenterVerdict (some (r, .entry)) p .grant .none with partySize := some y.members.length } else u) :=
    fun u => Keeps.ite (issue_keeps u _).mono (Keeps.refl _ u)
  refine Keeps.trans ?_ (h _)
  have k : ∀ (u : State) (c : Bool), Keeps decided u (if c = true then u.release r .entry else u) :=
    fun u c => Keeps.ite (release_keeps u _ _).mono (Keeps.refl _ u)
  refine Keeps.trans ?_ (k _ _)
  exact (((addRecords_keeps s _ _).mono.trans (noticeMembers_keeps _ _).mono).trans (openLead_keeps _ _ _ _ _).mono).trans
    (clearWaitingElsewhere_keeps _ _ _).mono

theorem staffCompletion_keeps (s : State) (r : RoomId) (p : Presentation) (t : Staff) (y : Party) :
    Keeps decided s (s.staffCompletion r p t y) := by
  unfold State.staffCompletion
  dsimp only
  split
  · exact ((setSlot_keeps s _ _).mono.trans (issue_keeps _ _).mono).trans (denyMembers_keeps _ _ _ _ _).mono
  · exact completeByStaff_keeps s r p t y _

theorem grantStaff_keeps (s : State) (r : RoomId) (p : Presentation) (b : Bool) : Keeps decided s (s.grantStaff r p b) := by
  unfold State.grantStaff
  dsimp only
  refine Keeps.trans ?_ (issue_keeps _ _).mono
  refine Keeps.trans ?_ (release_keeps _ _ _).mono
  refine Keeps.trans ?_ (clearWaitingElsewhere_keeps _ _ _).mono
  exact (addRecords_keeps s _ _).mono.trans (Keeps.ite (openLead_keeps _ _ _ _ _).mono (Keeps.refl _ _))

theorem admitStaff_keeps (s : State) (r : RoomId) (p : Presentation) (b : Bool) : Keeps decided s (s.admitStaff r p b) := by
  unfold State.admitStaff
  split
  · exact (denyPlain_keeps s _ _ _).mono
  · exact grantStaff_keeps s r p b

theorem waitAsLead_keeps (s : State) (r : RoomId) (p : Presentation) : Keeps decided s (s.waitAsLead r p) :=
  ((openLead_keeps s _ _ _ _).mono.trans (clearWaitingElsewhere_keeps _ _ _).mono).trans (issue_keeps _ _).mono

theorem decideStaffSlot_keeps (s : State) (r : RoomId) (p : Presentation) (t : Staff) :
    Keeps decided s (s.decideStaffSlot r p t) := by
  unfold State.decideStaffSlot
  split
  · exact staffCompletion_keeps s r p t _
  · exact Keeps.ite (Keeps.ite (admitStaff_keeps s _ _ _) (denyPlain_keeps s _ _ _).mono)
      (Keeps.ite (admitStaff_keeps s _ _ _) (waitAsLead_keeps s _ _))
  · exact Keeps.ite (admitStaff_keeps s _ _ _) (waitAsLead_keeps s _ _)

theorem decideStaff_keeps (s : State) (r : RoomId) (p : Presentation) (t : Staff) :
    Keeps decided s (s.decideStaff r p t) := by
  unfold State.decideStaff
  refine Keeps.ite (denyPlain_keeps s _ _ _).mono (Keeps.ite (denyPlain_keeps s _ _ _).mono
    (Keeps.ite (decideStaffSlot_keeps s r p t) ?_))
  split
  · exact (denyPlain_keeps s _ _ _).mono
  · next s' h => exact (passback_keeps s s' r p h).trans (decideStaffSlot_keeps s' r p t)

theorem denyChosen_keeps (s : State) (r : RoomId) (p : Presentation) (m : Permit) (c : Chosen) (x : Reason) :
    Keeps [.rooms, .reports] s (s.denyChosen r p m c x) := issue_keeps s _

theorem grantContractor_keeps (s : State) (r : RoomId) (p : Presentation) (m : Permit) (c : Chosen)
    (e : Option Nat) : Keeps decided s (s.grantContractor r p m c e) :=
  ((((addRecords_keeps s _ _).mono.trans (grantNotice_keeps _ _ _).mono).trans (leaveOtherParty_keeps _ _ _).mono).trans
    (release_keeps _ _ _).mono).trans (issue_keeps _ _).mono

theorem admitContractor_keeps (s : State) (r : RoomId) (p : Presentation) (m : Permit) (c : Chosen)
    (e : Option Nat) : Keeps decided s (s.admitContractor r p m c e) := by
  unfold State.admitContractor
  split
  · exact (denyChosen_keeps s _ _ _ _ _).mono
  · exact grantContractor_keeps s r p m c e

theorem completePair_keeps (s : State) (r : RoomId) (p : Presentation) (m : Permit) (c : Chosen) (w : Member) (n : Nat) :
    Keeps decided s (s.completePair r p m c w n) := by
  unfold State.completePair
  split
  · exact ((setSlot_keeps s _ _).mono.trans (issue_keeps _ _).mono).trans (issue_keeps _ _).mono
  · dsimp only
    refine Keeps.trans ?_ (issue_keeps _ _).mono
    refine Keeps.trans ?_ (issue_keeps _ _).mono
    refine Keeps.trans ?_ (release_keeps _ _ _).mono
    refine Keeps.trans ?_ (leaveOtherParty_keeps _ _ _).mono
    refine Keeps.trans ?_ (setSlot_keeps _ _ _).mono
    exact ((addRecords_keeps s _ _).mono.trans (grantNotice_keeps _ _ _).mono).trans (grantNotice_keeps _ _ _).mono

theorem joinPair_keeps (s : State) (r : RoomId) (p : Presentation) (m : Permit) (c : Chosen) (y : Party) :
    Keeps decided s (s.joinPair r p m c y) := by
  unfold State.joinPair
  split
  · exact completePair_keeps s r p m c _ _
  · exact Keeps.refl _ s

theorem issuePending_keeps (s : State) (r : RoomId) (p : Presentation) (m : Permit) (c : Chosen) (n : Nat) :
    Keeps [.rooms, .reports] s (s.issuePending r p m c n) := issue_keeps s _

theorem startParty_keeps (s : State) (r : RoomId) (p : Presentation) (m : Permit) (c : Chosen) :
    Keeps decided s (s.startParty r p m c) :=
  ((setSlot_keeps s _ _).mono.trans (leaveOtherParty_keeps _ _ _).mono).trans (issuePending_keeps _ _ _ _ _ _).mono

theorem joinParty_keeps (s : State) (r : RoomId) (p : Presentation) (m : Permit) (c : Chosen) (y : Party) :
    Keeps decided s (s.joinParty r p m c y) := by
  unfold State.joinParty
  split
  · exact Keeps.ite
      (((setSlot_keeps s _ _).mono.trans (leaveOtherParty_keeps _ _ _).mono).trans (issuePending_keeps _ _ _ _ _ _).mono)
      (denyChosen_keeps s _ _ _ _ _).mono
  · exact Keeps.ite (joinPair_keeps s _ _ _ _ _) (denyChosen_keeps s _ _ _ _ _).mono

theorem partyHandling_keeps (s : State) (r : RoomId) (p : Presentation) (m : Permit) (c : Chosen) :
    Keeps decided s (s.partyHandling r p m c) := by
  unfold State.partyHandling
  split
  · exact joinParty_keeps s r p m c _
  · exact startParty_keeps s r p m c

theorem completeLead_keeps (s : State) (r : RoomId) (p : Presentation) (m : Permit) (c : Chosen) (l : Lead) :
    Keeps decided s (s.completeLead r p m c l) := by
  unfold State.completeLead
  split
  · exact (denyChosen_keeps s _ _ _ _ _).mono
  · dsimp only
    refine Keeps.trans ?_ (issue_keeps _ _).mono
    refine Keeps.trans ?_ (issue_keeps _ _).mono
    refine Keeps.trans ?_ (release_keeps _ _ _).mono
    refine Keeps.trans ?_ (clearWaitingElsewhere_keeps _ _ _).mono
    refine Keeps.trans ?_ (openLead_keeps _ _ _ _ _).mono
    exact ((addRecords_keeps s _ _).mono.trans (grantNotice_keeps _ _ _).mono).trans (leaveOtherParty_keeps _ _ _).mono

theorem meetLead_keeps (s : State) (r : RoomId) (p : Presentation) (m : Permit) (c : Chosen) (l : Lead) :
    Keeps decided s (s.meetLead r p m c l) := by
  unfold State.meetLead
  split
  · exact partyHandling_keeps s r p m c
  · refine Keeps.ite (partyHandling_keeps s r p m c) ?_
    split
    · exact completeLead_keeps s r p m c l
    · exact Keeps.ite (admitContractor_keeps s _ _ _ _ _) (partyHandling_keeps s r p m c)

theorem escortHandling_keeps (s : State) (r : RoomId) (p : Presentation) (m : Permit) (c : Chosen) :
    Keeps decided s (s.escortHandling r p m c) := by
  unfold State.escortHandling
  split
  · split
    · exact Keeps.ite (joinPair_keeps s _ _ _ _ _) (admitContractor_keeps s _ _ _ _ _)
    · exact admitContractor_keeps s _ _ _ _ _
  · split
    · exact meetLead_keeps s _ _ _ _ _
    · exact partyHandling_keeps s r p m c

theorem stillPending_keeps (s : State) (r : RoomId) (p : Presentation) (m : Member) (n : Nat) :
    Keeps [.rooms, .reports] s (s.stillPending r p m n) := issue_keeps s _

theorem decideContractor_keeps (s : State) (r : RoomId) (p : Presentation) (m : Permit) :
    Keeps decided s (s.decideContractor r p m) := by
  unfold State.decideContractor
  split
  · exact (stillPending_keeps s _ _ _ _).mono
  · split
    · exact (denyContractor_keeps s _ _ _ _ _).mono
    · split
      · exact (denyContractor_keeps s _ _ _ _ _).mono.trans (raise_keeps _ _ _ _ _).mono
      · split
        · split
          · exact (denyContractor_keeps s _ _ _ _ _).mono
          · exact (denyContractor_keeps s _ _ _ _ _).mono
        · split
          · exact (denyContractor_keeps s _ _ _ _ _).mono
          · next h => exact (passback_keeps s _ r p h).trans (escortHandling_keeps _ r p m _)

theorem decideEntry_keeps (s : State) (r : RoomId) (p : Presentation) : Keeps decided s (s.decideEntry r p) := by
  unfold State.decideEntry
  refine Keeps.ite (denyPlain_keeps s _ _ _).mono (Keeps.ite (denyPlain_keeps s _ _ _).mono ?_)
  split
  · exact decideStaff_keeps s r p _
  · split
    · exact decideContractor_keeps s r p _
    · exact (denyPlain_keeps s _ _ _).mono

theorem takeOffRoll_keeps (s : State) (r : RoomId) (c : Nat) : Keeps decided s (s.takeOffRoll r c).1 := by
  unfold State.takeOffRoll
  split
  · exact Keeps.refl _ s
  · split
    · exact (departOne_keeps s _ _).mono
    · exact (departOne_keeps s _ _).mono.trans (setRollState_keeps _ _ _).mono

theorem decideExit_keeps (s : State) (r : RoomId) (p : Presentation) : Keeps decided s (s.decideExit r p) :=
  ((takeOffRoll_keeps s r p.credential).trans (release_keeps _ _ _).mono).trans (issue_keeps _ _).mono

theorem decideCheckIn_keeps (s : State) (r : RoomId) (p : Presentation) : Keeps decided s (s.decideCheckIn r p) :=
  Keeps.ite ((changeRecord_keeps s _ _).mono.trans (issue_keeps _ _).mono) (issue_keeps s _).mono

theorem unassignedReader_keeps (s : State) (p : Presentation) : Keeps [.reports] s (s.unassignedReader p) := by
  unfold State.unassignedReader
  split
  · exact offerRoutine_keeps s _
  · exact Keeps.refl _ s

theorem screen_keeps (s : State) (p : Presentation) : Keeps decided s (s.screen p) := by
  unfold State.screen
  split
  · exact Keeps.ite (decideEntry_keeps s _ p) (denyPlain_keeps s _ _ _).mono
  · refine Keeps.ite ?_ ((release_keeps s _ _).mono.trans (issue_keeps _ _).mono)
    split
    · exact decideExit_keeps s _ p
    · exact decideCheckIn_keeps s _ p
  · exact Keeps.ite (unassignedReader_keeps s p).mono (issue_keeps s _).mono

theorem present_keeps (s : State) (p : Presentation) :
    Keeps [.permits, .rooms, .slots, .roll, .doors, .reports, .lastSeen] s (s.present p) := by
  unfold State.present
  exact Keeps.ite (Keeps.refl _ s) ((withLastSeen_keeps s _).mono.trans (screen_keeps _ p).mono)

/-! ## The Field Port -/

theorem chooseStation_keeps (s : State) : Keeps [.field] s s.chooseStation := withField_keeps s _

theorem endVisit_keeps (s : State) : Keeps [.field] s s.endVisit := (withField_keeps s _).trans (chooseStation_keeps _)

theorem carryFailed_keeps (s : State) (i : CarryItem) (c : CarryCause) : Keeps [.reports] s (s.carryFailed i c) :=
  offerRoutine_keeps s _

theorem deliverCarry_keeps (s : State) : Keeps [.field] s s.deliverCarry := withField_keeps s _

theorem failRiding_keeps (s : State) (c : CarryCause) : Keeps [.field, .reports] s (s.failRiding c) := by
  unfold State.failRiding
  split
  · exact (deliverCarry_keeps s).mono.trans (carryFailed_keeps _ _ _).mono
  · exact Keeps.refl _ s

theorem failStation_keeps (s : State) (a : StationId) : Keeps [.field, .reports] s (s.failStation a) :=
  (withField_keeps s _).mono.trans (Keeps.fold (fun _ _ => (carryFailed_keeps _ _ _).mono) _ _)

theorem sendVisit_keeps (s : State) (a : StationId) : Keeps [.field] s (s.sendVisit a) := withField_keeps s _

theorem tellDoor_keeps {fs : List Field} (s : State) (a : StationId) (notice : State → RoomId → State)
    (h : ∀ r, Keeps fs s (notice s r)) : Keeps fs s (s.tellDoor a notice) := by
  unfold State.tellDoor
  split
  · exact h _
  · exact Keeps.refl _ s

theorem stationLost_keeps (s : State) (a : StationId) (b : OnlineState) (c : CarryCause) :
    Keeps [.rooms, .slots, .doors, .reports] s (s.stationLost a b c) :=
  (raise_keeps s _ _ _ _).mono.trans (tellDoor_keeps _ _ _ fun r => driverOffline_keeps _ r)

theorem countMiss_keeps (s : State) (a : StationId) (c : CarryCause) :
    Keeps [.rooms, .slots, .doors, .stations, .reports] s (s.countMiss a c) :=
  Keeps.ite (setStation_keeps s _ _).mono
    (Keeps.ite ((setStation_keeps s _ _).mono.trans (stationLost_keeps _ _ _ _).mono) (Keeps.refl _ s))

theorem visitFailed_keeps (s : State) (a : StationId) (c : CarryCause) :
    Keeps [.rooms, .slots, .doors, .stations, .field, .reports] s (s.visitFailed a c) :=
  ((countMiss_keeps s a c).mono.trans (failRiding_keeps _ _).mono).trans (endVisit_keeps _).mono

theorem stationAnswered_keeps (s : State) (a : StationId) : Keeps [.doors, .stations, .reports] s (s.stationAnswered a) := by
  unfold State.stationAnswered
  dsimp only
  split
  · exact ((setStation_keeps s _ _).mono.trans (raise_keeps _ _ _ _ _).mono).trans
      (tellDoor_keeps _ _ _ fun r => (driverOnline_keeps _ r).mono)
  · exact (setStation_keeps s _ _).mono

theorem takeBody_keeps (s : State) (a : StationId) (b : ReplyBody) :
    Keeps [.permits, .rooms, .slots, .roll, .doors, .reports, .lastSeen] s (s.takeBody a b) := by
  cases b
  · exact Keeps.refl _ s
  · exact present_keeps s _
  · exact tellDoor_keeps s a _ fun r => (driverEvents_keeps s r _).mono

theorem takeCarryUp_keeps (s : State) (a : StationId) (u : Option (List Byte)) : Keeps [.reports] s (s.takeCarryUp a u) := by
  cases u
  · exact Keeps.refl _ s
  · exact offerRoutine_keeps s _

theorem replyTaken_keeps (s : State) (a : StationId) (reply : FieldReply) :
    Keeps [.permits, .rooms, .slots, .roll, .doors, .stations, .field, .reports, .lastSeen] s (s.replyTaken a reply) :=
  ((((stationAnswered_keeps s a).mono.trans (deliverCarry_keeps _).mono).trans (takeBody_keeps _ a _).mono).trans
    (takeCarryUp_keeps _ a _).mono).trans (endVisit_keeps _).mono

theorem replyMissed_keeps (s : State) (v : Visit) :
    Keeps [.now, .rooms, .slots, .doors, .stations, .field, .reports] s (s.replyMissed v) :=
  (advance_keeps s _).mono.trans (visitFailed_keeps _ _ _).mono

theorem frameEnded_keeps (s : State) (v : Visit) (moment : Nat) (j : Judgement) :
    Keeps [.now, .permits, .rooms, .slots, .roll, .doors, .stations, .field, .reports, .lastSeen] s (s.frameEnded v moment j) := by
  cases j
  · exact Keeps.refl _ s
  · exact (advance_keeps s moment).mono.trans (Keeps.ite (visitFailed_keeps _ _ _).mono (Keeps.refl _ _))
  · exact (advance_keeps s moment).mono.trans (visitFailed_keeps _ _ _).mono
  · exact (advance_keeps s moment).mono.trans (replyTaken_keeps _ _ _).mono

theorem writeStation_keeps (s : State) (a : StationId) (x : StationSettings) (y : Option LineSpeed) :
    Keeps [.settings] s (s.writeStation a x y) := withSettings_keeps s _

theorem disableStation_keeps (s : State) (a : StationId) : Keeps [.field, .reports] s (s.disableStation a) := by
  unfold State.disableStation
  dsimp only
  split
  · exact (failStation_keeps s a).trans (Keeps.ite (endVisit_keeps _).mono (Keeps.refl _ _))
  · exact (failStation_keeps s a).trans (Keeps.ite (chooseStation_keeps _).mono (Keeps.refl _ _))

theorem enableStation_keeps (s : State) : Keeps [.field] s s.enableStation :=
  Keeps.ite (chooseStation_keeps s) (Keeps.refl _ s)

/-! ## The tables -/

theorem setPermitState_keeps (s : State) (c : Nat) (x : PermitState) : Keeps [.permits] s (s.setPermitState c x) :=
  withPermits_keeps s _

theorem withdrawAt_keeps (s : State) (r : RoomId) (c : Nat) (x : Reason) :
    Keeps [.rooms, .slots, .reports] s (s.withdrawAt r c x) := by
  unfold State.withdrawAt
  split
  · split
    · exact (setSlot_keeps s _ _).mono.trans (issue_keeps _ _).mono
    · exact Keeps.refl _ s
  · exact Keeps.refl _ s

theorem withdraw_keeps (s : State) (c : Nat) (x : PermitState) :
    Keeps [.rooms, .slots, .roll, .reports] s (s.withdraw c x) :=
  (Keeps.fold (fun _ _ => (withdrawAt_keeps _ _ _ _).mono) allRooms s).trans (withdrawInside_keeps _ _ _).mono

/-! ## Rooms and part -/

theorem storeRoom_keeps (s : State) (r : RoomId) (x : RoomSettings) : Keeps [.settings, .rooms] s (s.storeRoom r x) :=
  (withSettings_keeps s _).mono.trans (setRoom_keeps _ _ _).mono

theorem takeIdentity_keeps (s : State) (r : RoomId) (x y : RoomSettings) :
    Keeps [.rooms, .doors, .reports] s (s.takeIdentity r x y) := by
  unfold State.takeIdentity
  refine Keeps.ite (Keeps.ite ?_ (Keeps.ite (freshStart_keeps s r).mono (Keeps.refl _ s))) (Keeps.ite ?_ (Keeps.refl _ s))
  · exact (setRoom_keeps s _ _).mono.trans (freshStart_keeps _ r).mono
  · exact (setRoom_keeps s _ _).mono.trans (closeDown_keeps _ r).mono

theorem takeInterval_keeps (s : State) (r : RoomId) (x y : RoomSettings) : Keeps [.roll] s (s.takeInterval r x y) :=
  Keeps.ite (evaluateLone_keeps s r) (Keeps.refl _ s)

theorem applyRoom_keeps (s : State) (r : RoomId) (x : RoomSettings) :
    Keeps [.settings, .rooms, .roll, .doors, .reports] s (s.applyRoom r x) :=
  ((storeRoom_keeps s r x).mono.trans (takeIdentity_keeps _ _ _ _).mono).trans (takeInterval_keeps _ _ _ _).mono

theorem lockSlot_keeps (s : State) (r : RoomId) : Keeps [.slots, .reports] s (s.lockSlot r) := by
  unfold State.lockSlot
  split
  · exact (Keeps.fold (fun _ _ => (issueSilently_keeps _ _).mono) _ s).trans (setSlot_keeps _ _ _).mono
  · exact (setSlot_keeps s _ _).mono
  · exact Keeps.refl _ s

theorem cancelEntry_keeps (s : State) (r : RoomId) : Keeps [.doors] s (s.cancelEntry r) := by
  unfold State.cancelEntry
  split
  · split
    · exact cancelProgram_keeps s r
    · exact Keeps.refl _ s
  · exact Keeps.refl _ s

theorem holdSlot_keeps (s : State) (r : RoomId) : Keeps [.rooms, .slots, .reports] s (s.holdSlot r) := by
  unfold State.holdSlot
  split
  · exact breakSlot_keeps s r _
  · exact Keeps.refl _ s

theorem changeMode_keeps (s : State) (r : RoomId) (x : RoomMode) :
    Keeps [.rooms, .slots, .doors, .reports] s (s.changeMode r x) := by
  unfold State.changeMode
  dsimp only
  split
  · exact (((setRoom_keeps s _ _).mono.trans (lockSlot_keeps _ r).mono).trans (cancelEntry_keeps _ r).mono).trans
      (setRoom_keeps _ _ _).mono
  · exact Keeps.ite ((setRoom_keeps s _ _).mono.trans (holdSlot_keeps _ r).mono) (setRoom_keeps s _ _).mono
  · exact (setRoom_keeps s _ _).mono

theorem reconcile_keeps (s : State) (r : RoomId) (l : List Nat) :
    Keeps [.rooms, .slots, .roll, .reports] s (s.reconcile r l) :=
  (depart_keeps s _ _ _).mono.trans (setRollState_keeps _ _ _).mono

theorem applyPart_keeps (s : State) (x : PartSettings) : Keeps [.settings, .rooms] s (s.applyPart x) :=
  Keeps.ite ((withSettings_keeps s _).mono.trans (recomputeZones_keeps _).mono) (withSettings_keeps s _).mono

/-! ## The Trunk Port -/

theorem restartSilence_keeps (s : State) : Keeps [.trunk] s s.restartSilence := withTrunk_keeps s _

theorem offerCommand_keeps (s : State) (p : List Byte) : Keeps [.trunk] s (s.offerCommand p) := by
  unfold State.offerCommand
  split
  · exact Keeps.ite (withTrunk_keeps s _) (withTrunk_keeps s _)
  · exact Keeps.refl _ s

theorem restoreLink_keeps (s : State) : Keeps [.trunk, .reports] s s.restoreLink := by
  unfold State.restoreLink
  split
  · exact Keeps.refl _ s
  · exact (withTrunk_keeps s _).mono.trans (raise_keeps _ _ _ _ _).mono

theorem reply_keeps (s : State) (a b : Bool) : Keeps [.trunk, .reports] s (s.reply a b) := by
  unfold State.reply
  dsimp only
  exact (((withReports_keeps s _).mono.trans (withReports_keeps _ _).mono).trans (withTrunk_keeps _ _).mono).trans
    (withTrunk_keeps _ _).mono

theorem staleness_keeps (s : State) : Keeps [.clock, .reports] s s.staleness := by
  unfold State.staleness
  dsimp only
  exact Keeps.ite ((withClock_keeps s _).mono.trans (raise_keeps _ _ _ _ _).mono) (withClock_keeps s _).mono

theorem minuteEvent_keeps (s : State) (b : Bool) : Keeps [.clock, .roll, .reports] s (s.minuteEvent b) :=
  Keeps.ite ((staleness_keeps s).mono.trans (rollMinute_keeps _ _).mono)
    ((rollMinute_keeps s _).mono.trans (staleness_keeps _).mono)

/-! ## The Management Executor -/

/-- Once what executing a request can do: nothing, or the head of the command queue is taken, its rule applied, and its answer
put at the end of the answer queue where the rule gives one. -/
theorem executeRequest_cases (s : State) (isRow : Nat → Bool) (rule : Request → State → Executed) :
    s.executeRequest isRow rule = s ∨
    ∃ r rest, s.mayExecute = true ∧ s.trunk.commands = r :: rest ∧ isRow r.name = true ∧
      ((∃ status data, (rule r (s.withTrunk { s.trunk with commands := rest })).answer = some (status, data) ∧
          s.executeRequest isRow rule
            = (rule r (s.withTrunk { s.trunk with commands := rest })).state.answer r status data) ∨
        ((rule r (s.withTrunk { s.trunk with commands := rest })).answer = none ∧
          s.executeRequest isRow rule = (rule r (s.withTrunk { s.trunk with commands := rest })).state)) := by
  unfold State.executeRequest State.takeRequest
  by_cases hm : s.mayExecute = true
  · cases hc : s.trunk.commands with
    | nil =>
      left
      simp [hm]
    | cons r rest =>
      by_cases hr : isRow r.name = true
      · right
        refine ⟨r, rest, hm, rfl, hr, ?_⟩
        cases ha : (rule r (s.withTrunk { s.trunk with commands := rest })).answer with
        | none =>
          right
          simp [hm, hr, ha]
        | some x =>
          left
          exact ⟨x.1, x.2, rfl, by simp [hm, hr, ha]⟩
      · left
        simp [hm, hr]
  · left
    simp [hm]

/-- A request at the head of the command queue that the executor may take is answered by its rule. -/
theorem executeNamed_answers (s : State) (name : Nat) (rule : Request → State → Executed) (r : Request)
    (rest : List Request) (hm : s.mayExecute = true) (hc : s.trunk.commands = r :: rest) (hn : r.name = name)
    (status : Status) (data : AnswerData)
    (ha : (rule r (s.withTrunk { s.trunk with commands := rest })).answer = some (status, data)) :
    s.executeNamed name rule = (rule r (s.withTrunk { s.trunk with commands := rest })).state.answer r status data := by
  unfold State.executeNamed State.executeRequest State.takeRequest
  simp [hm, hc, hn, ha]

end Sys2Proof.Machine
end

