-- ==== Sys2Proof/Laws/State.lean ====
section
/-! SUPPORT. One lemma for each field of State and each setter of Ops, and for the four setters of one table entry. Each is true
by unfolding, so that no later proof unfolds a record update. -/

namespace Sys2Proof.Machine.State

@[simp] theorem withPhase_pending (s : State) (x : Phase) : (s.withPhase x).pending = s.pending := rfl
@[simp] theorem withPhase_phase (s : State) (x : Phase) : (s.withPhase x).phase = x := rfl
@[simp] theorem withPhase_now (s : State) (x : Phase) : (s.withPhase x).now = s.now := rfl
@[simp] theorem withPhase_serial (s : State) (x : Phase) : (s.withPhase x).serial = s.serial := rfl
@[simp] theorem withPhase_memory (s : State) (x : Phase) : (s.withPhase x).memory = s.memory := rfl
@[simp] theorem withPhase_loadResult (s : State) (x : Phase) : (s.withPhase x).loadResult = s.loadResult := rfl
@[simp] theorem withPhase_settings (s : State) (x : Phase) : (s.withPhase x).settings = s.settings := rfl
@[simp] theorem withPhase_retired (s : State) (x : Phase) : (s.withPhase x).retired = s.retired := rfl
@[simp] theorem withPhase_permits (s : State) (x : Phase) : (s.withPhase x).permits = s.permits := rfl
@[simp] theorem withPhase_roster (s : State) (x : Phase) : (s.withPhase x).roster = s.roster := rfl
@[simp] theorem withPhase_clock (s : State) (x : Phase) : (s.withPhase x).clock = s.clock := rfl
@[simp] theorem withPhase_rooms (s : State) (x : Phase) : (s.withPhase x).rooms = s.rooms := rfl
@[simp] theorem withPhase_slots (s : State) (x : Phase) : (s.withPhase x).slots = s.slots := rfl
@[simp] theorem withPhase_roll (s : State) (x : Phase) : (s.withPhase x).roll = s.roll := rfl
@[simp] theorem withPhase_doors (s : State) (x : Phase) : (s.withPhase x).doors = s.doors := rfl
@[simp] theorem withPhase_stations (s : State) (x : Phase) : (s.withPhase x).stations = s.stations := rfl
@[simp] theorem withPhase_field (s : State) (x : Phase) : (s.withPhase x).field = s.field := rfl
@[simp] theorem withPhase_trunk (s : State) (x : Phase) : (s.withPhase x).trunk = s.trunk := rfl
@[simp] theorem withPhase_executor (s : State) (x : Phase) : (s.withPhase x).executor = s.executor := rfl
@[simp] theorem withPhase_reports (s : State) (x : Phase) : (s.withPhase x).reports = s.reports := rfl
@[simp] theorem withPhase_lastSeen (s : State) (x : Phase) : (s.withPhase x).lastSeen = s.lastSeen := rfl

@[simp] theorem withNow_pending (s : State) (x : Nat) : (s.withNow x).pending = s.pending := rfl
@[simp] theorem withNow_phase (s : State) (x : Nat) : (s.withNow x).phase = s.phase := rfl
@[simp] theorem withNow_now (s : State) (x : Nat) : (s.withNow x).now = x := rfl
@[simp] theorem withNow_serial (s : State) (x : Nat) : (s.withNow x).serial = s.serial := rfl
@[simp] theorem withNow_memory (s : State) (x : Nat) : (s.withNow x).memory = s.memory := rfl
@[simp] theorem withNow_loadResult (s : State) (x : Nat) : (s.withNow x).loadResult = s.loadResult := rfl
@[simp] theorem withNow_settings (s : State) (x : Nat) : (s.withNow x).settings = s.settings := rfl
@[simp] theorem withNow_retired (s : State) (x : Nat) : (s.withNow x).retired = s.retired := rfl
@[simp] theorem withNow_permits (s : State) (x : Nat) : (s.withNow x).permits = s.permits := rfl
@[simp] theorem withNow_roster (s : State) (x : Nat) : (s.withNow x).roster = s.roster := rfl
@[simp] theorem withNow_clock (s : State) (x : Nat) : (s.withNow x).clock = s.clock := rfl
@[simp] theorem withNow_rooms (s : State) (x : Nat) : (s.withNow x).rooms = s.rooms := rfl
@[simp] theorem withNow_slots (s : State) (x : Nat) : (s.withNow x).slots = s.slots := rfl
@[simp] theorem withNow_roll (s : State) (x : Nat) : (s.withNow x).roll = s.roll := rfl
@[simp] theorem withNow_doors (s : State) (x : Nat) : (s.withNow x).doors = s.doors := rfl
@[simp] theorem withNow_stations (s : State) (x : Nat) : (s.withNow x).stations = s.stations := rfl
@[simp] theorem withNow_field (s : State) (x : Nat) : (s.withNow x).field = s.field := rfl
@[simp] theorem withNow_trunk (s : State) (x : Nat) : (s.withNow x).trunk = s.trunk := rfl
@[simp] theorem withNow_executor (s : State) (x : Nat) : (s.withNow x).executor = s.executor := rfl
@[simp] theorem withNow_reports (s : State) (x : Nat) : (s.withNow x).reports = s.reports := rfl
@[simp] theorem withNow_lastSeen (s : State) (x : Nat) : (s.withNow x).lastSeen = s.lastSeen := rfl

@[simp] theorem withMemory_pending (s : State) (x : ConfigMemory) : (s.withMemory x).pending = s.pending := rfl
@[simp] theorem withMemory_phase (s : State) (x : ConfigMemory) : (s.withMemory x).phase = s.phase := rfl
@[simp] theorem withMemory_now (s : State) (x : ConfigMemory) : (s.withMemory x).now = s.now := rfl
@[simp] theorem withMemory_serial (s : State) (x : ConfigMemory) : (s.withMemory x).serial = s.serial := rfl
@[simp] theorem withMemory_memory (s : State) (x : ConfigMemory) : (s.withMemory x).memory = x := rfl
@[simp] theorem withMemory_loadResult (s : State) (x : ConfigMemory) : (s.withMemory x).loadResult = s.loadResult := rfl
@[simp] theorem withMemory_settings (s : State) (x : ConfigMemory) : (s.withMemory x).settings = s.settings := rfl
@[simp] theorem withMemory_retired (s : State) (x : ConfigMemory) : (s.withMemory x).retired = s.retired := rfl
@[simp] theorem withMemory_permits (s : State) (x : ConfigMemory) : (s.withMemory x).permits = s.permits := rfl
@[simp] theorem withMemory_roster (s : State) (x : ConfigMemory) : (s.withMemory x).roster = s.roster := rfl
@[simp] theorem withMemory_clock (s : State) (x : ConfigMemory) : (s.withMemory x).clock = s.clock := rfl
@[simp] theorem withMemory_rooms (s : State) (x : ConfigMemory) : (s.withMemory x).rooms = s.rooms := rfl
@[simp] theorem withMemory_slots (s : State) (x : ConfigMemory) : (s.withMemory x).slots = s.slots := rfl
@[simp] theorem withMemory_roll (s : State) (x : ConfigMemory) : (s.withMemory x).roll = s.roll := rfl
@[simp] theorem withMemory_doors (s : State) (x : ConfigMemory) : (s.withMemory x).doors = s.doors := rfl
@[simp] theorem withMemory_stations (s : State) (x : ConfigMemory) : (s.withMemory x).stations = s.stations := rfl
@[simp] theorem withMemory_field (s : State) (x : ConfigMemory) : (s.withMemory x).field = s.field := rfl
@[simp] theorem withMemory_trunk (s : State) (x : ConfigMemory) : (s.withMemory x).trunk = s.trunk := rfl
@[simp] theorem withMemory_executor (s : State) (x : ConfigMemory) : (s.withMemory x).executor = s.executor := rfl
@[simp] theorem withMemory_reports (s : State) (x : ConfigMemory) : (s.withMemory x).reports = s.reports := rfl
@[simp] theorem withMemory_lastSeen (s : State) (x : ConfigMemory) : (s.withMemory x).lastSeen = s.lastSeen := rfl

@[simp] theorem withLoadResult_pending (s : State) (x : LoadResult) : (s.withLoadResult x).pending = s.pending := rfl
@[simp] theorem withLoadResult_phase (s : State) (x : LoadResult) : (s.withLoadResult x).phase = s.phase := rfl
@[simp] theorem withLoadResult_now (s : State) (x : LoadResult) : (s.withLoadResult x).now = s.now := rfl
@[simp] theorem withLoadResult_serial (s : State) (x : LoadResult) : (s.withLoadResult x).serial = s.serial := rfl
@[simp] theorem withLoadResult_memory (s : State) (x : LoadResult) : (s.withLoadResult x).memory = s.memory := rfl
@[simp] theorem withLoadResult_loadResult (s : State) (x : LoadResult) : (s.withLoadResult x).loadResult = x := rfl
@[simp] theorem withLoadResult_settings (s : State) (x : LoadResult) : (s.withLoadResult x).settings = s.settings := rfl
@[simp] theorem withLoadResult_retired (s : State) (x : LoadResult) : (s.withLoadResult x).retired = s.retired := rfl
@[simp] theorem withLoadResult_permits (s : State) (x : LoadResult) : (s.withLoadResult x).permits = s.permits := rfl
@[simp] theorem withLoadResult_roster (s : State) (x : LoadResult) : (s.withLoadResult x).roster = s.roster := rfl
@[simp] theorem withLoadResult_clock (s : State) (x : LoadResult) : (s.withLoadResult x).clock = s.clock := rfl
@[simp] theorem withLoadResult_rooms (s : State) (x : LoadResult) : (s.withLoadResult x).rooms = s.rooms := rfl
@[simp] theorem withLoadResult_slots (s : State) (x : LoadResult) : (s.withLoadResult x).slots = s.slots := rfl
@[simp] theorem withLoadResult_roll (s : State) (x : LoadResult) : (s.withLoadResult x).roll = s.roll := rfl
@[simp] theorem withLoadResult_doors (s : State) (x : LoadResult) : (s.withLoadResult x).doors = s.doors := rfl
@[simp] theorem withLoadResult_stations (s : State) (x : LoadResult) : (s.withLoadResult x).stations = s.stations := rfl
@[simp] theorem withLoadResult_field (s : State) (x : LoadResult) : (s.withLoadResult x).field = s.field := rfl
@[simp] theorem withLoadResult_trunk (s : State) (x : LoadResult) : (s.withLoadResult x).trunk = s.trunk := rfl
@[simp] theorem withLoadResult_executor (s : State) (x : LoadResult) : (s.withLoadResult x).executor = s.executor := rfl
@[simp] theorem withLoadResult_reports (s : State) (x : LoadResult) : (s.withLoadResult x).reports = s.reports := rfl
@[simp] theorem withLoadResult_lastSeen (s : State) (x : LoadResult) : (s.withLoadResult x).lastSeen = s.lastSeen := rfl

@[simp] theorem withSettings_pending (s : State) (x : Settings) : (s.withSettings x).pending = s.pending := rfl
@[simp] theorem withSettings_phase (s : State) (x : Settings) : (s.withSettings x).phase = s.phase := rfl
@[simp] theorem withSettings_now (s : State) (x : Settings) : (s.withSettings x).now = s.now := rfl
@[simp] theorem withSettings_serial (s : State) (x : Settings) : (s.withSettings x).serial = s.serial := rfl
@[simp] theorem withSettings_memory (s : State) (x : Settings) : (s.withSettings x).memory = s.memory := rfl
@[simp] theorem withSettings_loadResult (s : State) (x : Settings) : (s.withSettings x).loadResult = s.loadResult := rfl
@[simp] theorem withSettings_settings (s : State) (x : Settings) : (s.withSettings x).settings = x := rfl
@[simp] theorem withSettings_retired (s : State) (x : Settings) : (s.withSettings x).retired = s.retired := rfl
@[simp] theorem withSettings_permits (s : State) (x : Settings) : (s.withSettings x).permits = s.permits := rfl
@[simp] theorem withSettings_roster (s : State) (x : Settings) : (s.withSettings x).roster = s.roster := rfl
@[simp] theorem withSettings_clock (s : State) (x : Settings) : (s.withSettings x).clock = s.clock := rfl
@[simp] theorem withSettings_rooms (s : State) (x : Settings) : (s.withSettings x).rooms = s.rooms := rfl
@[simp] theorem withSettings_slots (s : State) (x : Settings) : (s.withSettings x).slots = s.slots := rfl
@[simp] theorem withSettings_roll (s : State) (x : Settings) : (s.withSettings x).roll = s.roll := rfl
@[simp] theorem withSettings_doors (s : State) (x : Settings) : (s.withSettings x).doors = s.doors := rfl
@[simp] theorem withSettings_stations (s : State) (x : Settings) : (s.withSettings x).stations = s.stations := rfl
@[simp] theorem withSettings_field (s : State) (x : Settings) : (s.withSettings x).field = s.field := rfl
@[simp] theorem withSettings_trunk (s : State) (x : Settings) : (s.withSettings x).trunk = s.trunk := rfl
@[simp] theorem withSettings_executor (s : State) (x : Settings) : (s.withSettings x).executor = s.executor := rfl
@[simp] theorem withSettings_reports (s : State) (x : Settings) : (s.withSettings x).reports = s.reports := rfl
@[simp] theorem withSettings_lastSeen (s : State) (x : Settings) : (s.withSettings x).lastSeen = s.lastSeen := rfl

@[simp] theorem withRetired_pending (s : State) (x : RetiredMap) : (s.withRetired x).pending = s.pending := rfl
@[simp] theorem withRetired_phase (s : State) (x : RetiredMap) : (s.withRetired x).phase = s.phase := rfl
@[simp] theorem withRetired_now (s : State) (x : RetiredMap) : (s.withRetired x).now = s.now := rfl
@[simp] theorem withRetired_serial (s : State) (x : RetiredMap) : (s.withRetired x).serial = s.serial := rfl
@[simp] theorem withRetired_memory (s : State) (x : RetiredMap) : (s.withRetired x).memory = s.memory := rfl
@[simp] theorem withRetired_loadResult (s : State) (x : RetiredMap) : (s.withRetired x).loadResult = s.loadResult := rfl
@[simp] theorem withRetired_settings (s : State) (x : RetiredMap) : (s.withRetired x).settings = s.settings := rfl
@[simp] theorem withRetired_retired (s : State) (x : RetiredMap) : (s.withRetired x).retired = x := rfl
@[simp] theorem withRetired_permits (s : State) (x : RetiredMap) : (s.withRetired x).permits = s.permits := rfl
@[simp] theorem withRetired_roster (s : State) (x : RetiredMap) : (s.withRetired x).roster = s.roster := rfl
@[simp] theorem withRetired_clock (s : State) (x : RetiredMap) : (s.withRetired x).clock = s.clock := rfl
@[simp] theorem withRetired_rooms (s : State) (x : RetiredMap) : (s.withRetired x).rooms = s.rooms := rfl
@[simp] theorem withRetired_slots (s : State) (x : RetiredMap) : (s.withRetired x).slots = s.slots := rfl
@[simp] theorem withRetired_roll (s : State) (x : RetiredMap) : (s.withRetired x).roll = s.roll := rfl
@[simp] theorem withRetired_doors (s : State) (x : RetiredMap) : (s.withRetired x).doors = s.doors := rfl
@[simp] theorem withRetired_stations (s : State) (x : RetiredMap) : (s.withRetired x).stations = s.stations := rfl
@[simp] theorem withRetired_field (s : State) (x : RetiredMap) : (s.withRetired x).field = s.field := rfl
@[simp] theorem withRetired_trunk (s : State) (x : RetiredMap) : (s.withRetired x).trunk = s.trunk := rfl
@[simp] theorem withRetired_executor (s : State) (x : RetiredMap) : (s.withRetired x).executor = s.executor := rfl
@[simp] theorem withRetired_reports (s : State) (x : RetiredMap) : (s.withRetired x).reports = s.reports := rfl
@[simp] theorem withRetired_lastSeen (s : State) (x : RetiredMap) : (s.withRetired x).lastSeen = s.lastSeen := rfl

@[simp] theorem withPermits_pending (s : State) (x : List Permit) : (s.withPermits x).pending = s.pending := rfl
@[simp] theorem withPermits_phase (s : State) (x : List Permit) : (s.withPermits x).phase = s.phase := rfl
@[simp] theorem withPermits_now (s : State) (x : List Permit) : (s.withPermits x).now = s.now := rfl
@[simp] theorem withPermits_serial (s : State) (x : List Permit) : (s.withPermits x).serial = s.serial := rfl
@[simp] theorem withPermits_memory (s : State) (x : List Permit) : (s.withPermits x).memory = s.memory := rfl
@[simp] theorem withPermits_loadResult (s : State) (x : List Permit) : (s.withPermits x).loadResult = s.loadResult := rfl
@[simp] theorem withPermits_settings (s : State) (x : List Permit) : (s.withPermits x).settings = s.settings := rfl
@[simp] theorem withPermits_retired (s : State) (x : List Permit) : (s.withPermits x).retired = s.retired := rfl
@[simp] theorem withPermits_permits (s : State) (x : List Permit) : (s.withPermits x).permits = x := rfl
@[simp] theorem withPermits_roster (s : State) (x : List Permit) : (s.withPermits x).roster = s.roster := rfl
@[simp] theorem withPermits_clock (s : State) (x : List Permit) : (s.withPermits x).clock = s.clock := rfl
@[simp] theorem withPermits_rooms (s : State) (x : List Permit) : (s.withPermits x).rooms = s.rooms := rfl
@[simp] theorem withPermits_slots (s : State) (x : List Permit) : (s.withPermits x).slots = s.slots := rfl
@[simp] theorem withPermits_roll (s : State) (x : List Permit) : (s.withPermits x).roll = s.roll := rfl
@[simp] theorem withPermits_doors (s : State) (x : List Permit) : (s.withPermits x).doors = s.doors := rfl
@[simp] theorem withPermits_stations (s : State) (x : List Permit) : (s.withPermits x).stations = s.stations := rfl
@[simp] theorem withPermits_field (s : State) (x : List Permit) : (s.withPermits x).field = s.field := rfl
@[simp] theorem withPermits_trunk (s : State) (x : List Permit) : (s.withPermits x).trunk = s.trunk := rfl
@[simp] theorem withPermits_executor (s : State) (x : List Permit) : (s.withPermits x).executor = s.executor := rfl
@[simp] theorem withPermits_reports (s : State) (x : List Permit) : (s.withPermits x).reports = s.reports := rfl
@[simp] theorem withPermits_lastSeen (s : State) (x : List Permit) : (s.withPermits x).lastSeen = s.lastSeen := rfl

@[simp] theorem withRoster_pending (s : State) (x : List Staff) : (s.withRoster x).pending = s.pending := rfl
@[simp] theorem withRoster_phase (s : State) (x : List Staff) : (s.withRoster x).phase = s.phase := rfl
@[simp] theorem withRoster_now (s : State) (x : List Staff) : (s.withRoster x).now = s.now := rfl
@[simp] theorem withRoster_serial (s : State) (x : List Staff) : (s.withRoster x).serial = s.serial := rfl
@[simp] theorem withRoster_memory (s : State) (x : List Staff) : (s.withRoster x).memory = s.memory := rfl
@[simp] theorem withRoster_loadResult (s : State) (x : List Staff) : (s.withRoster x).loadResult = s.loadResult := rfl
@[simp] theorem withRoster_settings (s : State) (x : List Staff) : (s.withRoster x).settings = s.settings := rfl
@[simp] theorem withRoster_retired (s : State) (x : List Staff) : (s.withRoster x).retired = s.retired := rfl
@[simp] theorem withRoster_permits (s : State) (x : List Staff) : (s.withRoster x).permits = s.permits := rfl
@[simp] theorem withRoster_roster (s : State) (x : List Staff) : (s.withRoster x).roster = x := rfl
@[simp] theorem withRoster_clock (s : State) (x : List Staff) : (s.withRoster x).clock = s.clock := rfl
@[simp] theorem withRoster_rooms (s : State) (x : List Staff) : (s.withRoster x).rooms = s.rooms := rfl
@[simp] theorem withRoster_slots (s : State) (x : List Staff) : (s.withRoster x).slots = s.slots := rfl
@[simp] theorem withRoster_roll (s : State) (x : List Staff) : (s.withRoster x).roll = s.roll := rfl
@[simp] theorem withRoster_doors (s : State) (x : List Staff) : (s.withRoster x).doors = s.doors := rfl
@[simp] theorem withRoster_stations (s : State) (x : List Staff) : (s.withRoster x).stations = s.stations := rfl
@[simp] theorem withRoster_field (s : State) (x : List Staff) : (s.withRoster x).field = s.field := rfl
@[simp] theorem withRoster_trunk (s : State) (x : List Staff) : (s.withRoster x).trunk = s.trunk := rfl
@[simp] theorem withRoster_executor (s : State) (x : List Staff) : (s.withRoster x).executor = s.executor := rfl
@[simp] theorem withRoster_reports (s : State) (x : List Staff) : (s.withRoster x).reports = s.reports := rfl
@[simp] theorem withRoster_lastSeen (s : State) (x : List Staff) : (s.withRoster x).lastSeen = s.lastSeen := rfl

@[simp] theorem withClock_pending (s : State) (x : Clock) : (s.withClock x).pending = s.pending := rfl
@[simp] theorem withClock_phase (s : State) (x : Clock) : (s.withClock x).phase = s.phase := rfl
@[simp] theorem withClock_now (s : State) (x : Clock) : (s.withClock x).now = s.now := rfl
@[simp] theorem withClock_serial (s : State) (x : Clock) : (s.withClock x).serial = s.serial := rfl
@[simp] theorem withClock_memory (s : State) (x : Clock) : (s.withClock x).memory = s.memory := rfl
@[simp] theorem withClock_loadResult (s : State) (x : Clock) : (s.withClock x).loadResult = s.loadResult := rfl
@[simp] theorem withClock_settings (s : State) (x : Clock) : (s.withClock x).settings = s.settings := rfl
@[simp] theorem withClock_retired (s : State) (x : Clock) : (s.withClock x).retired = s.retired := rfl
@[simp] theorem withClock_permits (s : State) (x : Clock) : (s.withClock x).permits = s.permits := rfl
@[simp] theorem withClock_roster (s : State) (x : Clock) : (s.withClock x).roster = s.roster := rfl
@[simp] theorem withClock_clock (s : State) (x : Clock) : (s.withClock x).clock = x := rfl
@[simp] theorem withClock_rooms (s : State) (x : Clock) : (s.withClock x).rooms = s.rooms := rfl
@[simp] theorem withClock_slots (s : State) (x : Clock) : (s.withClock x).slots = s.slots := rfl
@[simp] theorem withClock_roll (s : State) (x : Clock) : (s.withClock x).roll = s.roll := rfl
@[simp] theorem withClock_doors (s : State) (x : Clock) : (s.withClock x).doors = s.doors := rfl
@[simp] theorem withClock_stations (s : State) (x : Clock) : (s.withClock x).stations = s.stations := rfl
@[simp] theorem withClock_field (s : State) (x : Clock) : (s.withClock x).field = s.field := rfl
@[simp] theorem withClock_trunk (s : State) (x : Clock) : (s.withClock x).trunk = s.trunk := rfl
@[simp] theorem withClock_executor (s : State) (x : Clock) : (s.withClock x).executor = s.executor := rfl
@[simp] theorem withClock_reports (s : State) (x : Clock) : (s.withClock x).reports = s.reports := rfl
@[simp] theorem withClock_lastSeen (s : State) (x : Clock) : (s.withClock x).lastSeen = s.lastSeen := rfl

@[simp] theorem withRooms_pending (s : State) (x : Vector RoomState 6) : (s.withRooms x).pending = s.pending := rfl
@[simp] theorem withRooms_phase (s : State) (x : Vector RoomState 6) : (s.withRooms x).phase = s.phase := rfl
@[simp] theorem withRooms_now (s : State) (x : Vector RoomState 6) : (s.withRooms x).now = s.now := rfl
@[simp] theorem withRooms_serial (s : State) (x : Vector RoomState 6) : (s.withRooms x).serial = s.serial := rfl
@[simp] theorem withRooms_memory (s : State) (x : Vector RoomState 6) : (s.withRooms x).memory = s.memory := rfl
@[simp] theorem withRooms_loadResult (s : State) (x : Vector RoomState 6) : (s.withRooms x).loadResult = s.loadResult := rfl
@[simp] theorem withRooms_settings (s : State) (x : Vector RoomState 6) : (s.withRooms x).settings = s.settings := rfl
@[simp] theorem withRooms_retired (s : State) (x : Vector RoomState 6) : (s.withRooms x).retired = s.retired := rfl
@[simp] theorem withRooms_permits (s : State) (x : Vector RoomState 6) : (s.withRooms x).permits = s.permits := rfl
@[simp] theorem withRooms_roster (s : State) (x : Vector RoomState 6) : (s.withRooms x).roster = s.roster := rfl
@[simp] theorem withRooms_clock (s : State) (x : Vector RoomState 6) : (s.withRooms x).clock = s.clock := rfl
@[simp] theorem withRooms_rooms (s : State) (x : Vector RoomState 6) : (s.withRooms x).rooms = x := rfl
@[simp] theorem withRooms_slots (s : State) (x : Vector RoomState 6) : (s.withRooms x).slots = s.slots := rfl
@[simp] theorem withRooms_roll (s : State) (x : Vector RoomState 6) : (s.withRooms x).roll = s.roll := rfl
@[simp] theorem withRooms_doors (s : State) (x : Vector RoomState 6) : (s.withRooms x).doors = s.doors := rfl
@[simp] theorem withRooms_stations (s : State) (x : Vector RoomState 6) : (s.withRooms x).stations = s.stations := rfl
@[simp] theorem withRooms_field (s : State) (x : Vector RoomState 6) : (s.withRooms x).field = s.field := rfl
@[simp] theorem withRooms_trunk (s : State) (x : Vector RoomState 6) : (s.withRooms x).trunk = s.trunk := rfl
@[simp] theorem withRooms_executor (s : State) (x : Vector RoomState 6) : (s.withRooms x).executor = s.executor := rfl
@[simp] theorem withRooms_reports (s : State) (x : Vector RoomState 6) : (s.withRooms x).reports = s.reports := rfl
@[simp] theorem withRooms_lastSeen (s : State) (x : Vector RoomState 6) : (s.withRooms x).lastSeen = s.lastSeen := rfl

@[simp] theorem withSlots_pending (s : State) (x : Vector Slot 6) : (s.withSlots x).pending = s.pending := rfl
@[simp] theorem withSlots_phase (s : State) (x : Vector Slot 6) : (s.withSlots x).phase = s.phase := rfl
@[simp] theorem withSlots_now (s : State) (x : Vector Slot 6) : (s.withSlots x).now = s.now := rfl
@[simp] theorem withSlots_serial (s : State) (x : Vector Slot 6) : (s.withSlots x).serial = s.serial := rfl
@[simp] theorem withSlots_memory (s : State) (x : Vector Slot 6) : (s.withSlots x).memory = s.memory := rfl
@[simp] theorem withSlots_loadResult (s : State) (x : Vector Slot 6) : (s.withSlots x).loadResult = s.loadResult := rfl
@[simp] theorem withSlots_settings (s : State) (x : Vector Slot 6) : (s.withSlots x).settings = s.settings := rfl
@[simp] theorem withSlots_retired (s : State) (x : Vector Slot 6) : (s.withSlots x).retired = s.retired := rfl
@[simp] theorem withSlots_permits (s : State) (x : Vector Slot 6) : (s.withSlots x).permits = s.permits := rfl
@[simp] theorem withSlots_roster (s : State) (x : Vector Slot 6) : (s.withSlots x).roster = s.roster := rfl
@[simp] theorem withSlots_clock (s : State) (x : Vector Slot 6) : (s.withSlots x).clock = s.clock := rfl
@[simp] theorem withSlots_rooms (s : State) (x : Vector Slot 6) : (s.withSlots x).rooms = s.rooms := rfl
@[simp] theorem withSlots_slots (s : State) (x : Vector Slot 6) : (s.withSlots x).slots = x := rfl
@[simp] theorem withSlots_roll (s : State) (x : Vector Slot 6) : (s.withSlots x).roll = s.roll := rfl
@[simp] theorem withSlots_doors (s : State) (x : Vector Slot 6) : (s.withSlots x).doors = s.doors := rfl
@[simp] theorem withSlots_stations (s : State) (x : Vector Slot 6) : (s.withSlots x).stations = s.stations := rfl
@[simp] theorem withSlots_field (s : State) (x : Vector Slot 6) : (s.withSlots x).field = s.field := rfl
@[simp] theorem withSlots_trunk (s : State) (x : Vector Slot 6) : (s.withSlots x).trunk = s.trunk := rfl
@[simp] theorem withSlots_executor (s : State) (x : Vector Slot 6) : (s.withSlots x).executor = s.executor := rfl
@[simp] theorem withSlots_reports (s : State) (x : Vector Slot 6) : (s.withSlots x).reports = s.reports := rfl
@[simp] theorem withSlots_lastSeen (s : State) (x : Vector Slot 6) : (s.withSlots x).lastSeen = s.lastSeen := rfl

@[simp] theorem withRoll_pending (s : State) (x : List Presence) : (s.withRoll x).pending = s.pending := rfl
@[simp] theorem withRoll_phase (s : State) (x : List Presence) : (s.withRoll x).phase = s.phase := rfl
@[simp] theorem withRoll_now (s : State) (x : List Presence) : (s.withRoll x).now = s.now := rfl
@[simp] theorem withRoll_serial (s : State) (x : List Presence) : (s.withRoll x).serial = s.serial := rfl
@[simp] theorem withRoll_memory (s : State) (x : List Presence) : (s.withRoll x).memory = s.memory := rfl
@[simp] theorem withRoll_loadResult (s : State) (x : List Presence) : (s.withRoll x).loadResult = s.loadResult := rfl
@[simp] theorem withRoll_settings (s : State) (x : List Presence) : (s.withRoll x).settings = s.settings := rfl
@[simp] theorem withRoll_retired (s : State) (x : List Presence) : (s.withRoll x).retired = s.retired := rfl
@[simp] theorem withRoll_permits (s : State) (x : List Presence) : (s.withRoll x).permits = s.permits := rfl
@[simp] theorem withRoll_roster (s : State) (x : List Presence) : (s.withRoll x).roster = s.roster := rfl
@[simp] theorem withRoll_clock (s : State) (x : List Presence) : (s.withRoll x).clock = s.clock := rfl
@[simp] theorem withRoll_rooms (s : State) (x : List Presence) : (s.withRoll x).rooms = s.rooms := rfl
@[simp] theorem withRoll_slots (s : State) (x : List Presence) : (s.withRoll x).slots = s.slots := rfl
@[simp] theorem withRoll_roll (s : State) (x : List Presence) : (s.withRoll x).roll = x := rfl
@[simp] theorem withRoll_doors (s : State) (x : List Presence) : (s.withRoll x).doors = s.doors := rfl
@[simp] theorem withRoll_stations (s : State) (x : List Presence) : (s.withRoll x).stations = s.stations := rfl
@[simp] theorem withRoll_field (s : State) (x : List Presence) : (s.withRoll x).field = s.field := rfl
@[simp] theorem withRoll_trunk (s : State) (x : List Presence) : (s.withRoll x).trunk = s.trunk := rfl
@[simp] theorem withRoll_executor (s : State) (x : List Presence) : (s.withRoll x).executor = s.executor := rfl
@[simp] theorem withRoll_reports (s : State) (x : List Presence) : (s.withRoll x).reports = s.reports := rfl
@[simp] theorem withRoll_lastSeen (s : State) (x : List Presence) : (s.withRoll x).lastSeen = s.lastSeen := rfl

@[simp] theorem withDoors_pending (s : State) (x : Vector Door 6) : (s.withDoors x).pending = s.pending := rfl
@[simp] theorem withDoors_phase (s : State) (x : Vector Door 6) : (s.withDoors x).phase = s.phase := rfl
@[simp] theorem withDoors_now (s : State) (x : Vector Door 6) : (s.withDoors x).now = s.now := rfl
@[simp] theorem withDoors_serial (s : State) (x : Vector Door 6) : (s.withDoors x).serial = s.serial := rfl
@[simp] theorem withDoors_memory (s : State) (x : Vector Door 6) : (s.withDoors x).memory = s.memory := rfl
@[simp] theorem withDoors_loadResult (s : State) (x : Vector Door 6) : (s.withDoors x).loadResult = s.loadResult := rfl
@[simp] theorem withDoors_settings (s : State) (x : Vector Door 6) : (s.withDoors x).settings = s.settings := rfl
@[simp] theorem withDoors_retired (s : State) (x : Vector Door 6) : (s.withDoors x).retired = s.retired := rfl
@[simp] theorem withDoors_permits (s : State) (x : Vector Door 6) : (s.withDoors x).permits = s.permits := rfl
@[simp] theorem withDoors_roster (s : State) (x : Vector Door 6) : (s.withDoors x).roster = s.roster := rfl
@[simp] theorem withDoors_clock (s : State) (x : Vector Door 6) : (s.withDoors x).clock = s.clock := rfl
@[simp] theorem withDoors_rooms (s : State) (x : Vector Door 6) : (s.withDoors x).rooms = s.rooms := rfl
@[simp] theorem withDoors_slots (s : State) (x : Vector Door 6) : (s.withDoors x).slots = s.slots := rfl
@[simp] theorem withDoors_roll (s : State) (x : Vector Door 6) : (s.withDoors x).roll = s.roll := rfl
@[simp] theorem withDoors_doors (s : State) (x : Vector Door 6) : (s.withDoors x).doors = x := rfl
@[simp] theorem withDoors_stations (s : State) (x : Vector Door 6) : (s.withDoors x).stations = s.stations := rfl
@[simp] theorem withDoors_field (s : State) (x : Vector Door 6) : (s.withDoors x).field = s.field := rfl
@[simp] theorem withDoors_trunk (s : State) (x : Vector Door 6) : (s.withDoors x).trunk = s.trunk := rfl
@[simp] theorem withDoors_executor (s : State) (x : Vector Door 6) : (s.withDoors x).executor = s.executor := rfl
@[simp] theorem withDoors_reports (s : State) (x : Vector Door 6) : (s.withDoors x).reports = s.reports := rfl
@[simp] theorem withDoors_lastSeen (s : State) (x : Vector Door 6) : (s.withDoors x).lastSeen = s.lastSeen := rfl

@[simp] theorem withStations_pending (s : State) (x : Vector StationState 16) : (s.withStations x).pending = s.pending := rfl
@[simp] theorem withStations_phase (s : State) (x : Vector StationState 16) : (s.withStations x).phase = s.phase := rfl
@[simp] theorem withStations_now (s : State) (x : Vector StationState 16) : (s.withStations x).now = s.now := rfl
@[simp] theorem withStations_serial (s : State) (x : Vector StationState 16) : (s.withStations x).serial = s.serial := rfl
@[simp] theorem withStations_memory (s : State) (x : Vector StationState 16) : (s.withStations x).memory = s.memory := rfl
@[simp] theorem withStations_loadResult (s : State) (x : Vector StationState 16) : (s.withStations x).loadResult = s.loadResult := rfl
@[simp] theorem withStations_settings (s : State) (x : Vector StationState 16) : (s.withStations x).settings = s.settings := rfl
@[simp] theorem withStations_retired (s : State) (x : Vector StationState 16) : (s.withStations x).retired = s.retired := rfl
@[simp] theorem withStations_permits (s : State) (x : Vector StationState 16) : (s.withStations x).permits = s.permits := rfl
@[simp] theorem withStations_roster (s : State) (x : Vector StationState 16) : (s.withStations x).roster = s.roster := rfl
@[simp] theorem withStations_clock (s : State) (x : Vector StationState 16) : (s.withStations x).clock = s.clock := rfl
@[simp] theorem withStations_rooms (s : State) (x : Vector StationState 16) : (s.withStations x).rooms = s.rooms := rfl
@[simp] theorem withStations_slots (s : State) (x : Vector StationState 16) : (s.withStations x).slots = s.slots := rfl
@[simp] theorem withStations_roll (s : State) (x : Vector StationState 16) : (s.withStations x).roll = s.roll := rfl
@[simp] theorem withStations_doors (s : State) (x : Vector StationState 16) : (s.withStations x).doors = s.doors := rfl
@[simp] theorem withStations_stations (s : State) (x : Vector StationState 16) : (s.withStations x).stations = x := rfl
@[simp] theorem withStations_field (s : State) (x : Vector StationState 16) : (s.withStations x).field = s.field := rfl
@[simp] theorem withStations_trunk (s : State) (x : Vector StationState 16) : (s.withStations x).trunk = s.trunk := rfl
@[simp] theorem withStations_executor (s : State) (x : Vector StationState 16) : (s.withStations x).executor = s.executor := rfl
@[simp] theorem withStations_reports (s : State) (x : Vector StationState 16) : (s.withStations x).reports = s.reports := rfl
@[simp] theorem withStations_lastSeen (s : State) (x : Vector StationState 16) : (s.withStations x).lastSeen = s.lastSeen := rfl

@[simp] theorem withField_pending (s : State) (x : FieldPort) : (s.withField x).pending = s.pending := rfl
@[simp] theorem withField_phase (s : State) (x : FieldPort) : (s.withField x).phase = s.phase := rfl
@[simp] theorem withField_now (s : State) (x : FieldPort) : (s.withField x).now = s.now := rfl
@[simp] theorem withField_serial (s : State) (x : FieldPort) : (s.withField x).serial = s.serial := rfl
@[simp] theorem withField_memory (s : State) (x : FieldPort) : (s.withField x).memory = s.memory := rfl
@[simp] theorem withField_loadResult (s : State) (x : FieldPort) : (s.withField x).loadResult = s.loadResult := rfl
@[simp] theorem withField_settings (s : State) (x : FieldPort) : (s.withField x).settings = s.settings := rfl
@[simp] theorem withField_retired (s : State) (x : FieldPort) : (s.withField x).retired = s.retired := rfl
@[simp] theorem withField_permits (s : State) (x : FieldPort) : (s.withField x).permits = s.permits := rfl
@[simp] theorem withField_roster (s : State) (x : FieldPort) : (s.withField x).roster = s.roster := rfl
@[simp] theorem withField_clock (s : State) (x : FieldPort) : (s.withField x).clock = s.clock := rfl
@[simp] theorem withField_rooms (s : State) (x : FieldPort) : (s.withField x).rooms = s.rooms := rfl
@[simp] theorem withField_slots (s : State) (x : FieldPort) : (s.withField x).slots = s.slots := rfl
@[simp] theorem withField_roll (s : State) (x : FieldPort) : (s.withField x).roll = s.roll := rfl
@[simp] theorem withField_doors (s : State) (x : FieldPort) : (s.withField x).doors = s.doors := rfl
@[simp] theorem withField_stations (s : State) (x : FieldPort) : (s.withField x).stations = s.stations := rfl
@[simp] theorem withField_field (s : State) (x : FieldPort) : (s.withField x).field = x := rfl
@[simp] theorem withField_trunk (s : State) (x : FieldPort) : (s.withField x).trunk = s.trunk := rfl
@[simp] theorem withField_executor (s : State) (x : FieldPort) : (s.withField x).executor = s.executor := rfl
@[simp] theorem withField_reports (s : State) (x : FieldPort) : (s.withField x).reports = s.reports := rfl
@[simp] theorem withField_lastSeen (s : State) (x : FieldPort) : (s.withField x).lastSeen = s.lastSeen := rfl

@[simp] theorem withTrunk_pending (s : State) (x : TrunkPort) : (s.withTrunk x).pending = s.pending := rfl
@[simp] theorem withTrunk_phase (s : State) (x : TrunkPort) : (s.withTrunk x).phase = s.phase := rfl
@[simp] theorem withTrunk_now (s : State) (x : TrunkPort) : (s.withTrunk x).now = s.now := rfl
@[simp] theorem withTrunk_serial (s : State) (x : TrunkPort) : (s.withTrunk x).serial = s.serial := rfl
@[simp] theorem withTrunk_memory (s : State) (x : TrunkPort) : (s.withTrunk x).memory = s.memory := rfl
@[simp] theorem withTrunk_loadResult (s : State) (x : TrunkPort) : (s.withTrunk x).loadResult = s.loadResult := rfl
@[simp] theorem withTrunk_settings (s : State) (x : TrunkPort) : (s.withTrunk x).settings = s.settings := rfl
@[simp] theorem withTrunk_retired (s : State) (x : TrunkPort) : (s.withTrunk x).retired = s.retired := rfl
@[simp] theorem withTrunk_permits (s : State) (x : TrunkPort) : (s.withTrunk x).permits = s.permits := rfl
@[simp] theorem withTrunk_roster (s : State) (x : TrunkPort) : (s.withTrunk x).roster = s.roster := rfl
@[simp] theorem withTrunk_clock (s : State) (x : TrunkPort) : (s.withTrunk x).clock = s.clock := rfl
@[simp] theorem withTrunk_rooms (s : State) (x : TrunkPort) : (s.withTrunk x).rooms = s.rooms := rfl
@[simp] theorem withTrunk_slots (s : State) (x : TrunkPort) : (s.withTrunk x).slots = s.slots := rfl
@[simp] theorem withTrunk_roll (s : State) (x : TrunkPort) : (s.withTrunk x).roll = s.roll := rfl
@[simp] theorem withTrunk_doors (s : State) (x : TrunkPort) : (s.withTrunk x).doors = s.doors := rfl
@[simp] theorem withTrunk_stations (s : State) (x : TrunkPort) : (s.withTrunk x).stations = s.stations := rfl
@[simp] theorem withTrunk_field (s : State) (x : TrunkPort) : (s.withTrunk x).field = s.field := rfl
@[simp] theorem withTrunk_trunk (s : State) (x : TrunkPort) : (s.withTrunk x).trunk = x := rfl
@[simp] theorem withTrunk_executor (s : State) (x : TrunkPort) : (s.withTrunk x).executor = s.executor := rfl
@[simp] theorem withTrunk_reports (s : State) (x : TrunkPort) : (s.withTrunk x).reports = s.reports := rfl
@[simp] theorem withTrunk_lastSeen (s : State) (x : TrunkPort) : (s.withTrunk x).lastSeen = s.lastSeen := rfl

@[simp] theorem withExecutor_pending (s : State) (x : Executor) : (s.withExecutor x).pending = s.pending := rfl
@[simp] theorem withExecutor_phase (s : State) (x : Executor) : (s.withExecutor x).phase = s.phase := rfl
@[simp] theorem withExecutor_now (s : State) (x : Executor) : (s.withExecutor x).now = s.now := rfl
@[simp] theorem withExecutor_serial (s : State) (x : Executor) : (s.withExecutor x).serial = s.serial := rfl
@[simp] theorem withExecutor_memory (s : State) (x : Executor) : (s.withExecutor x).memory = s.memory := rfl
@[simp] theorem withExecutor_loadResult (s : State) (x : Executor) : (s.withExecutor x).loadResult = s.loadResult := rfl
@[simp] theorem withExecutor_settings (s : State) (x : Executor) : (s.withExecutor x).settings = s.settings := rfl
@[simp] theorem withExecutor_retired (s : State) (x : Executor) : (s.withExecutor x).retired = s.retired := rfl
@[simp] theorem withExecutor_permits (s : State) (x : Executor) : (s.withExecutor x).permits = s.permits := rfl
@[simp] theorem withExecutor_roster (s : State) (x : Executor) : (s.withExecutor x).roster = s.roster := rfl
@[simp] theorem withExecutor_clock (s : State) (x : Executor) : (s.withExecutor x).clock = s.clock := rfl
@[simp] theorem withExecutor_rooms (s : State) (x : Executor) : (s.withExecutor x).rooms = s.rooms := rfl
@[simp] theorem withExecutor_slots (s : State) (x : Executor) : (s.withExecutor x).slots = s.slots := rfl
@[simp] theorem withExecutor_roll (s : State) (x : Executor) : (s.withExecutor x).roll = s.roll := rfl
@[simp] theorem withExecutor_doors (s : State) (x : Executor) : (s.withExecutor x).doors = s.doors := rfl
@[simp] theorem withExecutor_stations (s : State) (x : Executor) : (s.withExecutor x).stations = s.stations := rfl
@[simp] theorem withExecutor_field (s : State) (x : Executor) : (s.withExecutor x).field = s.field := rfl
@[simp] theorem withExecutor_trunk (s : State) (x : Executor) : (s.withExecutor x).trunk = s.trunk := rfl
@[simp] theorem withExecutor_executor (s : State) (x : Executor) : (s.withExecutor x).executor = x := rfl
@[simp] theorem withExecutor_reports (s : State) (x : Executor) : (s.withExecutor x).reports = s.reports := rfl
@[simp] theorem withExecutor_lastSeen (s : State) (x : Executor) : (s.withExecutor x).lastSeen = s.lastSeen := rfl

@[simp] theorem withReports_pending (s : State) (x : Reports) : (s.withReports x).pending = s.pending := rfl
@[simp] theorem withReports_phase (s : State) (x : Reports) : (s.withReports x).phase = s.phase := rfl
@[simp] theorem withReports_now (s : State) (x : Reports) : (s.withReports x).now = s.now := rfl
@[simp] theorem withReports_serial (s : State) (x : Reports) : (s.withReports x).serial = s.serial := rfl
@[simp] theorem withReports_memory (s : State) (x : Reports) : (s.withReports x).memory = s.memory := rfl
@[simp] theorem withReports_loadResult (s : State) (x : Reports) : (s.withReports x).loadResult = s.loadResult := rfl
@[simp] theorem withReports_settings (s : State) (x : Reports) : (s.withReports x).settings = s.settings := rfl
@[simp] theorem withReports_retired (s : State) (x : Reports) : (s.withReports x).retired = s.retired := rfl
@[simp] theorem withReports_permits (s : State) (x : Reports) : (s.withReports x).permits = s.permits := rfl
@[simp] theorem withReports_roster (s : State) (x : Reports) : (s.withReports x).roster = s.roster := rfl
@[simp] theorem withReports_clock (s : State) (x : Reports) : (s.withReports x).clock = s.clock := rfl
@[simp] theorem withReports_rooms (s : State) (x : Reports) : (s.withReports x).rooms = s.rooms := rfl
@[simp] theorem withReports_slots (s : State) (x : Reports) : (s.withReports x).slots = s.slots := rfl
@[simp] theorem withReports_roll (s : State) (x : Reports) : (s.withReports x).roll = s.roll := rfl
@[simp] theorem withReports_doors (s : State) (x : Reports) : (s.withReports x).doors = s.doors := rfl
@[simp] theorem withReports_stations (s : State) (x : Reports) : (s.withReports x).stations = s.stations := rfl
@[simp] theorem withReports_field (s : State) (x : Reports) : (s.withReports x).field = s.field := rfl
@[simp] theorem withReports_trunk (s : State) (x : Reports) : (s.withReports x).trunk = s.trunk := rfl
@[simp] theorem withReports_executor (s : State) (x : Reports) : (s.withReports x).executor = s.executor := rfl
@[simp] theorem withReports_reports (s : State) (x : Reports) : (s.withReports x).reports = x := rfl
@[simp] theorem withReports_lastSeen (s : State) (x : Reports) : (s.withReports x).lastSeen = s.lastSeen := rfl

@[simp] theorem withLastSeen_pending (s : State) (x : Vector (Option LastPresentation) 16) : (s.withLastSeen x).pending = s.pending := rfl
@[simp] theorem withLastSeen_phase (s : State) (x : Vector (Option LastPresentation) 16) : (s.withLastSeen x).phase = s.phase := rfl
@[simp] theorem withLastSeen_now (s : State) (x : Vector (Option LastPresentation) 16) : (s.withLastSeen x).now = s.now := rfl
@[simp] theorem withLastSeen_serial (s : State) (x : Vector (Option LastPresentation) 16) : (s.withLastSeen x).serial = s.serial := rfl
@[simp] theorem withLastSeen_memory (s : State) (x : Vector (Option LastPresentation) 16) : (s.withLastSeen x).memory = s.memory := rfl
@[simp] theorem withLastSeen_loadResult (s : State) (x : Vector (Option LastPresentation) 16) : (s.withLastSeen x).loadResult = s.loadResult := rfl
@[simp] theorem withLastSeen_settings (s : State) (x : Vector (Option LastPresentation) 16) : (s.withLastSeen x).settings = s.settings := rfl
@[simp] theorem withLastSeen_retired (s : State) (x : Vector (Option LastPresentation) 16) : (s.withLastSeen x).retired = s.retired := rfl
@[simp] theorem withLastSeen_permits (s : State) (x : Vector (Option LastPresentation) 16) : (s.withLastSeen x).permits = s.permits := rfl
@[simp] theorem withLastSeen_roster (s : State) (x : Vector (Option LastPresentation) 16) : (s.withLastSeen x).roster = s.roster := rfl
@[simp] theorem withLastSeen_clock (s : State) (x : Vector (Option LastPresentation) 16) : (s.withLastSeen x).clock = s.clock := rfl
@[simp] theorem withLastSeen_rooms (s : State) (x : Vector (Option LastPresentation) 16) : (s.withLastSeen x).rooms = s.rooms := rfl
@[simp] theorem withLastSeen_slots (s : State) (x : Vector (Option LastPresentation) 16) : (s.withLastSeen x).slots = s.slots := rfl
@[simp] theorem withLastSeen_roll (s : State) (x : Vector (Option LastPresentation) 16) : (s.withLastSeen x).roll = s.roll := rfl
@[simp] theorem withLastSeen_doors (s : State) (x : Vector (Option LastPresentation) 16) : (s.withLastSeen x).doors = s.doors := rfl
@[simp] theorem withLastSeen_stations (s : State) (x : Vector (Option LastPresentation) 16) : (s.withLastSeen x).stations = s.stations := rfl
@[simp] theorem withLastSeen_field (s : State) (x : Vector (Option LastPresentation) 16) : (s.withLastSeen x).field = s.field := rfl
@[simp] theorem withLastSeen_trunk (s : State) (x : Vector (Option LastPresentation) 16) : (s.withLastSeen x).trunk = s.trunk := rfl
@[simp] theorem withLastSeen_executor (s : State) (x : Vector (Option LastPresentation) 16) : (s.withLastSeen x).executor = s.executor := rfl
@[simp] theorem withLastSeen_reports (s : State) (x : Vector (Option LastPresentation) 16) : (s.withLastSeen x).reports = s.reports := rfl
@[simp] theorem withLastSeen_lastSeen (s : State) (x : Vector (Option LastPresentation) 16) : (s.withLastSeen x).lastSeen = x := rfl

@[simp] theorem setRoom_pending (s : State) (i : RoomId) (x : RoomState) : (s.setRoom i x).pending = s.pending := rfl
@[simp] theorem setRoom_phase (s : State) (i : RoomId) (x : RoomState) : (s.setRoom i x).phase = s.phase := rfl
@[simp] theorem setRoom_now (s : State) (i : RoomId) (x : RoomState) : (s.setRoom i x).now = s.now := rfl
@[simp] theorem setRoom_serial (s : State) (i : RoomId) (x : RoomState) : (s.setRoom i x).serial = s.serial := rfl
@[simp] theorem setRoom_memory (s : State) (i : RoomId) (x : RoomState) : (s.setRoom i x).memory = s.memory := rfl
@[simp] theorem setRoom_loadResult (s : State) (i : RoomId) (x : RoomState) : (s.setRoom i x).loadResult = s.loadResult := rfl
@[simp] theorem setRoom_settings (s : State) (i : RoomId) (x : RoomState) : (s.setRoom i x).settings = s.settings := rfl
@[simp] theorem setRoom_retired (s : State) (i : RoomId) (x : RoomState) : (s.setRoom i x).retired = s.retired := rfl
@[simp] theorem setRoom_permits (s : State) (i : RoomId) (x : RoomState) : (s.setRoom i x).permits = s.permits := rfl
@[simp] theorem setRoom_roster (s : State) (i : RoomId) (x : RoomState) : (s.setRoom i x).roster = s.roster := rfl
@[simp] theorem setRoom_clock (s : State) (i : RoomId) (x : RoomState) : (s.setRoom i x).clock = s.clock := rfl
@[simp] theorem setRoom_rooms (s : State) (i : RoomId) (x : RoomState) : (s.setRoom i x).rooms = put s.rooms i x := rfl
@[simp] theorem setRoom_slots (s : State) (i : RoomId) (x : RoomState) : (s.setRoom i x).slots = s.slots := rfl
@[simp] theorem setRoom_roll (s : State) (i : RoomId) (x : RoomState) : (s.setRoom i x).roll = s.roll := rfl
@[simp] theorem setRoom_doors (s : State) (i : RoomId) (x : RoomState) : (s.setRoom i x).doors = s.doors := rfl
@[simp] theorem setRoom_stations (s : State) (i : RoomId) (x : RoomState) : (s.setRoom i x).stations = s.stations := rfl
@[simp] theorem setRoom_field (s : State) (i : RoomId) (x : RoomState) : (s.setRoom i x).field = s.field := rfl
@[simp] theorem setRoom_trunk (s : State) (i : RoomId) (x : RoomState) : (s.setRoom i x).trunk = s.trunk := rfl
@[simp] theorem setRoom_executor (s : State) (i : RoomId) (x : RoomState) : (s.setRoom i x).executor = s.executor := rfl
@[simp] theorem setRoom_reports (s : State) (i : RoomId) (x : RoomState) : (s.setRoom i x).reports = s.reports := rfl
@[simp] theorem setRoom_lastSeen (s : State) (i : RoomId) (x : RoomState) : (s.setRoom i x).lastSeen = s.lastSeen := rfl
@[simp] theorem setRoom_room_self (s : State) (i : RoomId) (x : RoomState) : (s.setRoom i x).room i = x :=
  look_put_self s.rooms i x
theorem setRoom_room_other (s : State) (i j : RoomId) (x : RoomState) (h : i ≠ j) : (s.setRoom i x).room j = s.room j :=
  look_put_other s.rooms i j x h

@[simp] theorem setSlot_pending (s : State) (i : RoomId) (x : Slot) : (s.setSlot i x).pending = s.pending := rfl
@[simp] theorem setSlot_phase (s : State) (i : RoomId) (x : Slot) : (s.setSlot i x).phase = s.phase := rfl
@[simp] theorem setSlot_now (s : State) (i : RoomId) (x : Slot) : (s.setSlot i x).now = s.now := rfl
@[simp] theorem setSlot_serial (s : State) (i : RoomId) (x : Slot) : (s.setSlot i x).serial = s.serial := rfl
@[simp] theorem setSlot_memory (s : State) (i : RoomId) (x : Slot) : (s.setSlot i x).memory = s.memory := rfl
@[simp] theorem setSlot_loadResult (s : State) (i : RoomId) (x : Slot) : (s.setSlot i x).loadResult = s.loadResult := rfl
@[simp] theorem setSlot_settings (s : State) (i : RoomId) (x : Slot) : (s.setSlot i x).settings = s.settings := rfl
@[simp] theorem setSlot_retired (s : State) (i : RoomId) (x : Slot) : (s.setSlot i x).retired = s.retired := rfl
@[simp] theorem setSlot_permits (s : State) (i : RoomId) (x : Slot) : (s.setSlot i x).permits = s.permits := rfl
@[simp] theorem setSlot_roster (s : State) (i : RoomId) (x : Slot) : (s.setSlot i x).roster = s.roster := rfl
@[simp] theorem setSlot_clock (s : State) (i : RoomId) (x : Slot) : (s.setSlot i x).clock = s.clock := rfl
@[simp] theorem setSlot_rooms (s : State) (i : RoomId) (x : Slot) : (s.setSlot i x).rooms = s.rooms := rfl
@[simp] theorem setSlot_slots (s : State) (i : RoomId) (x : Slot) : (s.setSlot i x).slots = put s.slots i x := rfl
@[simp] theorem setSlot_roll (s : State) (i : RoomId) (x : Slot) : (s.setSlot i x).roll = s.roll := rfl
@[simp] theorem setSlot_doors (s : State) (i : RoomId) (x : Slot) : (s.setSlot i x).doors = s.doors := rfl
@[simp] theorem setSlot_stations (s : State) (i : RoomId) (x : Slot) : (s.setSlot i x).stations = s.stations := rfl
@[simp] theorem setSlot_field (s : State) (i : RoomId) (x : Slot) : (s.setSlot i x).field = s.field := rfl
@[simp] theorem setSlot_trunk (s : State) (i : RoomId) (x : Slot) : (s.setSlot i x).trunk = s.trunk := rfl
@[simp] theorem setSlot_executor (s : State) (i : RoomId) (x : Slot) : (s.setSlot i x).executor = s.executor := rfl
@[simp] theorem setSlot_reports (s : State) (i : RoomId) (x : Slot) : (s.setSlot i x).reports = s.reports := rfl
@[simp] theorem setSlot_lastSeen (s : State) (i : RoomId) (x : Slot) : (s.setSlot i x).lastSeen = s.lastSeen := rfl
@[simp] theorem setSlot_slot_self (s : State) (i : RoomId) (x : Slot) : (s.setSlot i x).slot i = x :=
  look_put_self s.slots i x
theorem setSlot_slot_other (s : State) (i j : RoomId) (x : Slot) (h : i ≠ j) : (s.setSlot i x).slot j = s.slot j :=
  look_put_other s.slots i j x h

@[simp] theorem setDoor_pending (s : State) (i : RoomId) (x : Door) : (s.setDoor i x).pending = s.pending := rfl
@[simp] theorem setDoor_phase (s : State) (i : RoomId) (x : Door) : (s.setDoor i x).phase = s.phase := rfl
@[simp] theorem setDoor_now (s : State) (i : RoomId) (x : Door) : (s.setDoor i x).now = s.now := rfl
@[simp] theorem setDoor_serial (s : State) (i : RoomId) (x : Door) : (s.setDoor i x).serial = s.serial := rfl
@[simp] theorem setDoor_memory (s : State) (i : RoomId) (x : Door) : (s.setDoor i x).memory = s.memory := rfl
@[simp] theorem setDoor_loadResult (s : State) (i : RoomId) (x : Door) : (s.setDoor i x).loadResult = s.loadResult := rfl
@[simp] theorem setDoor_settings (s : State) (i : RoomId) (x : Door) : (s.setDoor i x).settings = s.settings := rfl
@[simp] theorem setDoor_retired (s : State) (i : RoomId) (x : Door) : (s.setDoor i x).retired = s.retired := rfl
@[simp] theorem setDoor_permits (s : State) (i : RoomId) (x : Door) : (s.setDoor i x).permits = s.permits := rfl
@[simp] theorem setDoor_roster (s : State) (i : RoomId) (x : Door) : (s.setDoor i x).roster = s.roster := rfl
@[simp] theorem setDoor_clock (s : State) (i : RoomId) (x : Door) : (s.setDoor i x).clock = s.clock := rfl
@[simp] theorem setDoor_rooms (s : State) (i : RoomId) (x : Door) : (s.setDoor i x).rooms = s.rooms := rfl
@[simp] theorem setDoor_slots (s : State) (i : RoomId) (x : Door) : (s.setDoor i x).slots = s.slots := rfl
@[simp] theorem setDoor_roll (s : State) (i : RoomId) (x : Door) : (s.setDoor i x).roll = s.roll := rfl
@[simp] theorem setDoor_doors (s : State) (i : RoomId) (x : Door) : (s.setDoor i x).doors = put s.doors i x := rfl
@[simp] theorem setDoor_stations (s : State) (i : RoomId) (x : Door) : (s.setDoor i x).stations = s.stations := rfl
@[simp] theorem setDoor_field (s : State) (i : RoomId) (x : Door) : (s.setDoor i x).field = s.field := rfl
@[simp] theorem setDoor_trunk (s : State) (i : RoomId) (x : Door) : (s.setDoor i x).trunk = s.trunk := rfl
@[simp] theorem setDoor_executor (s : State) (i : RoomId) (x : Door) : (s.setDoor i x).executor = s.executor := rfl
@[simp] theorem setDoor_reports (s : State) (i : RoomId) (x : Door) : (s.setDoor i x).reports = s.reports := rfl
@[simp] theorem setDoor_lastSeen (s : State) (i : RoomId) (x : Door) : (s.setDoor i x).lastSeen = s.lastSeen := rfl
@[simp] theorem setDoor_door_self (s : State) (i : RoomId) (x : Door) : (s.setDoor i x).door i = x :=
  look_put_self s.doors i x
theorem setDoor_door_other (s : State) (i j : RoomId) (x : Door) (h : i ≠ j) : (s.setDoor i x).door j = s.door j :=
  look_put_other s.doors i j x h

@[simp] theorem setStation_pending (s : State) (i : StationId) (x : StationState) : (s.setStation i x).pending = s.pending := rfl
@[simp] theorem setStation_phase (s : State) (i : StationId) (x : StationState) : (s.setStation i x).phase = s.phase := rfl
@[simp] theorem setStation_now (s : State) (i : StationId) (x : StationState) : (s.setStation i x).now = s.now := rfl
@[simp] theorem setStation_serial (s : State) (i : StationId) (x : StationState) : (s.setStation i x).serial = s.serial := rfl
@[simp] theorem setStation_memory (s : State) (i : StationId) (x : StationState) : (s.setStation i x).memory = s.memory := rfl
@[simp] theorem setStation_loadResult (s : State) (i : StationId) (x : StationState) : (s.setStation i x).loadResult = s.loadResult := rfl
@[simp] theorem setStation_settings (s : State) (i : StationId) (x : StationState) : (s.setStation i x).settings = s.settings := rfl
@[simp] theorem setStation_retired (s : State) (i : StationId) (x : StationState) : (s.setStation i x).retired = s.retired := rfl
@[simp] theorem setStation_permits (s : State) (i : StationId) (x : StationState) : (s.setStation i x).permits = s.permits := rfl
@[simp] theorem setStation_roster (s : State) (i : StationId) (x : StationState) : (s.setStation i x).roster = s.roster := rfl
@[simp] theorem setStation_clock (s : State) (i : StationId) (x : StationState) : (s.setStation i x).clock = s.clock := rfl
@[simp] theorem setStation_rooms (s : State) (i : StationId) (x : StationState) : (s.setStation i x).rooms = s.rooms := rfl
@[simp] theorem setStation_slots (s : State) (i : StationId) (x : StationState) : (s.setStation i x).slots = s.slots := rfl
@[simp] theorem setStation_roll (s : State) (i : StationId) (x : StationState) : (s.setStation i x).roll = s.roll := rfl
@[simp] theorem setStation_doors (s : State) (i : StationId) (x : StationState) : (s.setStation i x).doors = s.doors := rfl
@[simp] theorem setStation_stations (s : State) (i : StationId) (x : StationState) : (s.setStation i x).stations = put s.stations i x := rfl
@[simp] theorem setStation_field (s : State) (i : StationId) (x : StationState) : (s.setStation i x).field = s.field := rfl
@[simp] theorem setStation_trunk (s : State) (i : StationId) (x : StationState) : (s.setStation i x).trunk = s.trunk := rfl
@[simp] theorem setStation_executor (s : State) (i : StationId) (x : StationState) : (s.setStation i x).executor = s.executor := rfl
@[simp] theorem setStation_reports (s : State) (i : StationId) (x : StationState) : (s.setStation i x).reports = s.reports := rfl
@[simp] theorem setStation_lastSeen (s : State) (i : StationId) (x : StationState) : (s.setStation i x).lastSeen = s.lastSeen := rfl
@[simp] theorem setStation_station_self (s : State) (i : StationId) (x : StationState) : (s.setStation i x).station i = x :=
  look_put_self s.stations i x
theorem setStation_station_other (s : State) (i j : StationId) (x : StationState) (h : i ≠ j) : (s.setStation i x).station j = s.station j :=
  look_put_other s.stations i j x h

@[simp] theorem advance_pending (s : State) (m : Nat) : (s.advance m).pending = s.pending := rfl
@[simp] theorem advance_phase (s : State) (m : Nat) : (s.advance m).phase = s.phase := rfl
@[simp] theorem advance_now (s : State) (m : Nat) : (s.advance m).now = max s.now m := rfl
@[simp] theorem advance_serial (s : State) (m : Nat) : (s.advance m).serial = s.serial := rfl
@[simp] theorem advance_memory (s : State) (m : Nat) : (s.advance m).memory = s.memory := rfl
@[simp] theorem advance_loadResult (s : State) (m : Nat) : (s.advance m).loadResult = s.loadResult := rfl
@[simp] theorem advance_settings (s : State) (m : Nat) : (s.advance m).settings = s.settings := rfl
@[simp] theorem advance_retired (s : State) (m : Nat) : (s.advance m).retired = s.retired := rfl
@[simp] theorem advance_permits (s : State) (m : Nat) : (s.advance m).permits = s.permits := rfl
@[simp] theorem advance_roster (s : State) (m : Nat) : (s.advance m).roster = s.roster := rfl
@[simp] theorem advance_clock (s : State) (m : Nat) : (s.advance m).clock = s.clock := rfl
@[simp] theorem advance_rooms (s : State) (m : Nat) : (s.advance m).rooms = s.rooms := rfl
@[simp] theorem advance_slots (s : State) (m : Nat) : (s.advance m).slots = s.slots := rfl
@[simp] theorem advance_roll (s : State) (m : Nat) : (s.advance m).roll = s.roll := rfl
@[simp] theorem advance_doors (s : State) (m : Nat) : (s.advance m).doors = s.doors := rfl
@[simp] theorem advance_stations (s : State) (m : Nat) : (s.advance m).stations = s.stations := rfl
@[simp] theorem advance_field (s : State) (m : Nat) : (s.advance m).field = s.field := rfl
@[simp] theorem advance_trunk (s : State) (m : Nat) : (s.advance m).trunk = s.trunk := rfl
@[simp] theorem advance_executor (s : State) (m : Nat) : (s.advance m).executor = s.executor := rfl
@[simp] theorem advance_reports (s : State) (m : Nat) : (s.advance m).reports = s.reports := rfl
@[simp] theorem advance_lastSeen (s : State) (m : Nat) : (s.advance m).lastSeen = s.lastSeen := rfl

end Sys2Proof.Machine.State
end

