-- ==== Sys2Proof/Laws/Ops.lean ====
section
/-! SUPPORT. What each shared operation does, said once: the queues, the release requests, and the two tables as lists in
rising credential order. -/

namespace Sys2Proof.Machine

/-! ## Queues -/

/-- A routine item enters at the end, or is discarded and counted (10 R174). -/
theorem Reports.offerRoutine_cases (q : Reports) (i : RoutineItem) :
    (q.routine.length < Config.routinePlaces ∧ q.offerRoutine i = { q with routine := q.routine ++ [i] }) ∨
    (¬ q.routine.length < Config.routinePlaces ∧ q.offerRoutine i = { q with discards := countUp q.discards }) := by
  by_cases h : q.routine.length < Config.routinePlaces
  · exact .inl ⟨h, by simp [Reports.offerRoutine, h]⟩
  · exact .inr ⟨h, by simp [Reports.offerRoutine, h]⟩

/-- An alarm coalesces, enters, or is discarded with the overflow flag set (10 R171, R172). -/
theorem Reports.offerAlarm_cases (q : Reports) (a : Alarm) :
    (q.alarms.any (fun b => b.key == a.key) = true ∧
      q.offerAlarm a = { q with alarms := q.alarms.map fun b => if b.key == a.key then b.absorb a else b }) ∨
    (q.alarms.any (fun b => b.key == a.key) = false ∧ q.alarms.length < Config.alarmPlaces ∧
      q.offerAlarm a = { q with alarms := q.alarms ++ [a] }) ∨
    (q.alarms.any (fun b => b.key == a.key) = false ∧ ¬ q.alarms.length < Config.alarmPlaces ∧
      q.offerAlarm a = { q with overflow := true }) := by
  cases h : q.alarms.any (fun b => b.key == a.key) with
  | true => exact .inl ⟨rfl, by simp only [Reports.offerAlarm, h, if_true]⟩
  | false =>
    by_cases k : q.alarms.length < Config.alarmPlaces
    · exact .inr (.inl ⟨rfl, k, by simp [Reports.offerAlarm, h, k]⟩)
    · exact .inr (.inr ⟨rfl, k, by simp [Reports.offerAlarm, h, k]⟩)

/-- A count raised and held never passes its ceiling (00 section 0.4). -/
theorem countUp_le (n : Nat) : countUp n ≤ Config.countCeiling := Nat.min_le_right _ _

/-! ## Release requests -/

/-- A release request does nothing where the selected program is empty, and otherwise starts it on the room's door (07
R132). -/
theorem State.release_cases (s : State) (r : RoomId) (k : Direction) :
    (s.program (s.selectedProgram r k) = [] ∧ s.release r k = s) ∨
    (s.program (s.selectedProgram r k) ≠ [] ∧
      s.release r k = s.setDoor r ((s.door r).start s.now (s.roomSettings r) k (s.selectedProgram r k)
        (s.program (s.selectedProgram r k)))) := by
  cases h : s.program (s.selectedProgram r k) with
  | nil => exact .inl ⟨rfl, by simp [State.release, h]⟩
  | cons x l => exact .inr ⟨by simp, by simp [State.release, h]⟩

/-! ## The tables in rising credential order (01 R1, R3) -/

/-- A list of permit records in strictly rising credential order. -/
abbrev PermitsRise (l : List Permit) : Prop := (l.map Permit.credential).Pairwise (· < ·)

theorem mem_insertPermit (p q : Permit) (l : List Permit) : q ∈ insertPermit p l ↔ q = p ∨ q ∈ l := by
  induction l with
  | nil => simp [insertPermit]
  | cons x l ih =>
    by_cases h : p.credential ≤ x.credential
    · simp [insertPermit, h]
    · simp only [insertPermit, if_neg h, List.mem_cons, ih]
      tauto

/-- Putting in a record of a credential that the table lacks keeps the order. -/
theorem insertPermit_rise (p : Permit) (l : List Permit) (h : PermitsRise l)
    (new : ∀ q ∈ l, q.credential ≠ p.credential) : PermitsRise (insertPermit p l) := by
  induction l with
  | nil => simp [PermitsRise, insertPermit]
  | cons x l ih =>
    simp only [PermitsRise, List.map_cons, List.pairwise_cons] at h
    have hx : x.credential ≠ p.credential := new x (by simp)
    by_cases hp : p.credential ≤ x.credential
    · have hlt : p.credential < x.credential := lt_of_le_of_ne hp (Ne.symm hx)
      simp only [PermitsRise, insertPermit, if_pos hp, List.map_cons, List.pairwise_cons]
      refine ⟨?_, h⟩
      intro c hc
      rcases List.mem_cons.mp hc with rfl | hc
      · exact hlt
      · exact lt_trans hlt (h.1 c hc)
    · have hgt : x.credential < p.credential := lt_of_not_ge hp
      simp only [PermitsRise, insertPermit, if_neg hp, List.map_cons, List.pairwise_cons]
      refine ⟨?_, ih h.2 fun q hq => new q (by simp [hq])⟩
      intro c hc
      obtain ⟨q, hq, rfl⟩ := List.mem_map.mp hc
      rcases (mem_insertPermit p q l).mp hq with rfl | hq
      · exact hgt
      · exact h.1 _ (List.mem_map_of_mem hq)

/-- Taking records out keeps the order. -/
theorem filterPermits_rise (f : Permit → Bool) (l : List Permit) (h : PermitsRise l) : PermitsRise (l.filter f) :=
  List.Pairwise.sublist (List.Sublist.map _ List.filter_sublist) h

theorem removePermit_rise (c : Nat) (l : List Permit) (h : PermitsRise l) : PermitsRise (removePermit c l) :=
  filterPermits_rise _ l h

/-- A change of records that leaves their credentials keeps the order. -/
theorem mapPermits_rise (f : Permit → Permit) (l : List Permit) (hf : ∀ p, (f p).credential = p.credential)
    (h : PermitsRise l) : PermitsRise (l.map f) := by
  simpa [PermitsRise, List.map_map, Function.comp_def, hf] using h

/-- Every operation on the Permit Table keeps its one canonical form: a load, a change of state and a grant notice. -/
theorem storePermit_rise (s : State) (k : LoadKind) (p : Permit) (h : PermitsRise s.permits) :
    PermitsRise (s.storePermit k p).state.permits := by
  unfold State.storePermit
  dsimp only
  split
  · exact h
  · refine insertPermit_rise _ _ (removePermit_rise _ _ h) ?_
    intro q hq
    have := (List.mem_filter.mp hq).2
    simpa [Permit.placed] using this

theorem setPermitState_rise (s : State) (c : Nat) (x : PermitState) (h : PermitsRise s.permits) :
    PermitsRise (s.setPermitState c x).permits :=
  mapPermits_rise _ _ (fun p => by split <;> rfl) h

theorem grantNotice_rise (s : State) (c : Nat) (n : Nat) (h : PermitsRise s.permits) :
    PermitsRise (s.grantNotice c n).permits :=
  mapPermits_rise _ _ (fun p => by split <;> rfl) h

/-- The table is empty, and so in order, at reset. -/
theorem reset_permits_rise : PermitsRise State.reset.permits := List.Pairwise.nil

end Sys2Proof.Machine
end

