-- ==== Sys2Proof/WellFormed.lean ====
section
/-! DEFINITION. Which commands are well formed: the operands of a row are what the row's event brings with it. The meanings are
total and do not rest on these checks. -/

namespace Sys2Proof.Instr

open Sys2Proof.Machine

/-- A frame received whole of one kind, its envelope standing alone on the line (12 R184). -/
def isFrameOf (kind : Nat) (bytes : List Byte) : Bool :=
  match receive bytes with
  | .whole f => f.kind == kind && bytes.length == f.payload.length + 7
  | _ => false

/-- A frame that has begun and is not ended (09 R156, 08 R147). -/
def isUnfinished (bytes : List Byte) : Bool := receive bytes == .incomplete

/-- A frame that was abandoned by its length or its CRC, or received whole (09 R156, 08 R147). -/
def isJudged (bytes : List Byte) : Bool :=
  match receive bytes with
  | .tooLong => true
  | .badCrc => true
  | .whole _ => true
  | .incomplete => false
  | .nothing => false

/-- Cell numbers in strictly rising order, all below 2048 (11 R178). -/
def risingCells : List Nat → Bool
  | [] => true
  | [c] => c < Config.permitCells
  | c :: d :: rest => c < d && risingCells (d :: rest)

/-- Whether a command is well formed. -/
def wf : Instr → Bool
  | powerOnReset _ => true
  | selfTestEnd _ failing => risingCells failing
  | settingsLoadEnd _ _ => true
  | restartReset => true
  | trunkGapAbandon bytes => isUnfinished bytes
  | timeFrame _ bytes => isFrameOf kindTime bytes
  | commandFrame _ bytes => isFrameOf kindCommand bytes
  | poll _ bytes => isFrameOf kindPoll bytes
  | silenceTimerExpiry => true
  | unknownRequest => true
  | loadPermit => true
  | dropPermit => true
  | suspendPermit => true
  | resumePermit => true
  | revokePermit => true
  | readPermit => true
  | purgePermits => true
  | loadEscort => true
  | dropEscort => true
  | readEscort => true
  | clearTables => true
  | setRoom => true
  | setRoomMode => true
  | readRoom => true
  | reconcileRoom => true
  | setProgram => true
  | cancelRelease => true
  | resumeRoom => true
  | remoteRelease => true
  | setStation => true
  | setPart => true
  | carry => true
  | readStatus => true
  | saveSettings _ => true
  | saveWriteEnd _ _ => true
  | restart => true
  | assignAddress => true
  | secondTick _ => true
  | visitSend _ => true
  | visitTimeout => true
  | fieldGapAbandon _ bytes => isUnfinished bytes
  | fieldFrame moment bytes began => isJudged bytes && began ≤ moment
  | heldTimerExpiry _ => true
  | waitExpiry _ => true
  | partyWindowExpiry _ => true
  | leadWindowExpiry _ => true
  | overlayExpiry _ _ => true
  | trunkFrameDiscarded bytes => isJudged bytes
  | replySent _ => true
  | powerLost _ => true

end Sys2Proof.Instr
end

