-- ==== Sys2Proof/Tests/Slice0.lean ====
section
/-! SUPPORT. The model's own tests, each on one small state: the well-formedness checks, worked cases of the spec, and for every
statement with hypotheses a named witness that meets them. -/

open Sys2Proof Sys2Proof.Machine

namespace Sys2Proof.Tests

set_option Elab.async false

/-! ## Small states -/

/-- The part running at trunk address 17. -/
def running : State :=
  { State.reset with phase := .running, trunk := { State.reset.trunk with address := 17 } }

/-- A state with one request of tag 5 in its command queue. -/
def asked (name : Nat) (body : List Byte) (s : State) : State :=
  { s with trunk := { s.trunk with commands := [{ tag := 5, name := name, body := body }] } }

theorem asked_atHead (name : Nat) (body : List Byte) (s : State) (h : s.phase = .running ∧ s.executor = .free)
    (k : s.reports.answers.length < 4) : (asked name body s).atHead 5 name body [] :=
  ⟨h.1, h.2, k, rfl⟩

/-- A grant at every hour of every day, of a rule. -/
def grant (rule : EscortRule) : Grant :=
  { zoneMask := 0xFFFFFFFF#32, validFrom := 0, validUntil := 4294967295, opens := 0, closes := 1440,
    weekdays := 127#8, rule := rule, maxStay := 60 }

/-- A permit of credential 77 with one grant of a rule. -/
def permit (rule : EscortRule) : Permit :=
  { permitNumber := 12, credential := 77, company := 3, state := .active, lock := .off, grants := [grant rule],
    lastEntry := none, headerCell := 0, grantCells := [1] }

/-- A staff record of credential 88. -/
def staff : Staff :=
  { credential := 88, staffNumber := 5, zoneMask := 0xFFFFFFFF#32, ratio := 4, mayEnterAlone := true, active := true }

/-- A room with its entry reader at address 1, its exit reader at 2 and its lock driver at 3. -/
def roomOne : RoomSettings :=
  { RoomSettings.default with enabled := true, entryReader := 1, exitReader := 2, lockDriver := 3 }

/-- The part with room 1 enabled, one permit of a rule, one staff record, and the time known. -/
def siteOf (rule : EscortRule) : State :=
  { running with
    settings := { Settings.default with
      rooms := put Settings.default.rooms 0 roomOne
      stations := put Settings.default.stations 2 { kind := .lockDriver, enabled := true } }
    permits := [permit rule]
    roster := [staff]
    clock := { running.clock with timeState := .set, lastTime := some 0 } }

def site : State := siteOf .none

/-- The presence record of the permit's holder in room 1. -/
def present77 : Presence :=
  { room := 0, credential := 77, entryMinute := 0, entrySecond := 0
    contractor := some
      { permitNumber := 12, grantIndex := 1, rule := .none, company := 3, stayDeadline := 0, checkIn := .armed 0,
        escort := none, partner := none, overstayRaised := false, checkInOverdue := 0, unescorted := false,
        withdrawn := false } }

/-- The permit's holder inside room 1. -/
def inside : State := { site with roll := [present77] }

/-- The permit's holder as a party member. -/
def member77 : Member :=
  { credential := 77, permitNumber := 12, grantIndex := 1, rule := .staff, company := 3, allowance := 60, issueLevel := 1 }

def party77 : Party := { rule := .staff, members := [member77], window := { duration := 20000, ends := 20000 } }

/-- The permit's holder in a party at room 1. -/
def waiting : State := { siteOf .staff with slots := put State.reset.slots 0 (.party party77) }

def lead88 (kind : LeadKind) : Lead :=
  { staff := 88, kind := kind, issueLevel := 1, window := { duration := 20000, ends := 20000 } }

/-- The staff member leading at room 1. -/
def leading (kind : LeadKind) : State := { site with slots := put State.reset.slots 0 (.lead (lead88 kind)) }

/-- The part with one door in a state. -/
def withDoor (d : Door) (s : State) : State := { s with doors := put s.doors 0 d }

/-- A running entry program in its WAIT. -/
def program20 : RunningProgram := { kind := .entry, number := 0, steps := [.unlock, .wait 20, .lock], current := 2 }

/-- The door of a running program. -/
def releasedDoor : Door :=
  { Door.atReset with
    state := .released, image := { Door.atReset.image with unlocked := true }, program := some program20
    waitTimer := some { duration := 5000, ends := 5000 } }

/-- A visit to a station that awaits its reply. -/
def visitTo (a : StationId) : Visit :=
  { station := a, frame := [], speed := .baud57600, timeout := { duration := 20, ends := 20 } }

/-- The part with a visit to station 3 outstanding and its missed count at a number. -/
def visiting (missed : Nat) : State :=
  { site with
    field := { site.field with visit := some (visitTo 2), lastVisited := some 2 }
    stations := put site.stations 2 { online := if 3 ≤ missed then .offline else .online, missed := missed } }

/-- A state with the slot of room 1 given. -/
def slotted (x : Slot) (s : State) : State := { s with slots := put s.slots 0 x }

/-- A state with another occupancy limit of room 1. -/
def limited (n : Nat) (s : State) : State :=
  { s with settings := { s.settings with rooms := put s.settings.rooms 0 { roomOne with occupancyLimit := n } } }

/-- Another contractor of the same firm as a party member. -/
def member (c : Nat) : Member := { member77 with credential := c }

def partyOf (rule : PartyRule) (members : List Member) : Party := { party77 with rule := rule, members := members }

/-- The staff member's presence record in room 1. -/
def present88 : Presence := { present77 with credential := 88, contractor := none }

/-- The permit's holder inside room 1 with the staff member as escort, who leads there. -/
def escorted : State :=
  { leading .entered with
    roll := [{ present77 with contractor := present77.contractor.map fun k => { k with escort := some 88 } }, present88] }

/-- Two contractors inside room 1 as a pair. -/
def paired : State :=
  { site with
    roll := [{ present77 with contractor := present77.contractor.map fun k => { k with partner := some 78 } },
      { present77 with credential := 78, contractor := present77.contractor.map fun k => { k with partner := some 77 } }] }

def alarmOf (detail : AlarmDetail) : Alarm :=
  { minute := 0, second := 0, room := none, credential := none, station := none, repeats := 0, detail := detail }

def answerOf (name : Nat) : Answer := { tag := 5, name := name, status := .done, data := .nothing }

def itemOf : RoutineItem := .carryUpPayload 0 0 1 [1]

/-- The part with its three report queues given. -/
def reporting (alarms : List Alarm) (answers : List Answer) (routine : List RoutineItem) : State :=
  { running with reports := { running.reports with alarms := alarms, answers := answers, routine := routine } }

/-- The part writing its settings image. -/
def saving : State := { running with executor := .saving 5 (imageOf running.settings 17) }

/-! ## Well-formedness: each check refuses an ill-formed term -/

theorem test_wf_refuses_a_falling_cell_list : (Instr.selfTestEnd 300 [5, 3]).wf = false := by decide
theorem test_wf_refuses_a_cell_outside : (Instr.selfTestEnd 300 [2048]).wf = false := by decide
theorem test_wf_refuses_a_frame_of_another_kind :
    (Instr.poll 0 (trunkFrame 17 1 [0, 0, 0, 0, 0]).bytes).wf = false := by decide +kernel
theorem test_wf_refuses_a_frame_with_bytes_after_it :
    (Instr.poll 0 ((trunkFrame 17 3 []).bytes ++ [0])).wf = false := by decide +kernel
theorem test_wf_refuses_an_ended_frame_as_a_gap :
    (Instr.trunkGapAbandon (trunkFrame 17 3 []).bytes).wf = false := by decide +kernel
theorem test_wf_refuses_an_unended_frame_as_judged : (Instr.trunkFrameDiscarded [0xA7#8, 17]).wf = false := by decide
theorem test_wf_refuses_a_frame_that_ends_before_it_begins :
    (Instr.fieldFrame 4 (plainReply 2).bytes 5).wf = false ∧ (Instr.fieldFrame 5 (plainReply 2).bytes 5).wf = true := by
  decide +kernel
theorem test_wf_takes_a_poll : (Instr.poll 0 (trunkFrame 17 3 []).bytes).wf = true := by decide +kernel
theorem test_wf_takes_a_length_of_201 : (Instr.trunkFrameDiscarded [0xA7#8, 17, 255, 2, 201]).wf = true := by decide

/-! ## Worked cases -/

/-- The check value of this CRC for the nine ASCII digits (polynomial 0x1021, all ones, sent as it stands: 12 R184). -/
theorem test_crc_of_the_nine_digits :
    crc [0x31#8, 0x32#8, 0x33#8, 0x34#8, 0x35#8, 0x36#8, 0x37#8, 0x38#8, 0x39#8] = 0x29B1#16 := by decide +kernel
/-- High byte first (12 R184). -/
theorem test_bytes_are_high_first : bytesOf 4 40217336 = [0x02#8, 0x65#8, 0xAA#8, 0xF8#8] := by decide
theorem test_number_of_bytes : numberOf [0x02#8, 0x65#8, 0xAA#8, 0xF8#8] = 40217336 := by decide
/-- A table of no bits spells no command. -/
theorem test_no_word_spells_a_command : decodeTableWord 0 0 = none := rfl
/-- 09 section 9.8 at 6 s: a POLL to 254 is ignored. -/
theorem test_poll_to_an_unassigned_part :
    (match exec (.poll 6000 (trunkFrame 254 3 []).bytes) { running with trunk := State.reset.trunk } with
      | .next t => (t.trunk.reply, t.now)
      | _ => (none, 1)) = (none, 0) := by decide +kernel
/-- 09 section 9.8 at 10 s: the silence timer runs out. -/
theorem test_silence_at_ten_seconds :
    (match exec .silenceTimerExpiry
        { running with trunk := { running.trunk with silenceTimer := some { duration := 10000, ends := 10000 } } } with
      | .next t => (t.now, t.trunk.link, t.trunk.silentSince)
      | _ => (0, .online, none)) = (10000, .silent, some 10000) := by decide
/-- 09 section 9.8 at 42 s: the part takes its address. -/
theorem test_assign_address_17 :
    (match exec .assignAddress
        (asked 26 (bytesOf 4 40217336 ++ bytesOf 1 17) { running with trunk := State.reset.trunk }) with
      | .next t => (t.trunk.address, t.reports.answers.map Answer.status)
      | _ => (0, [])) = (17, [Status.done]) := by decide +kernel
/-- 09 section 9.8 at 43 s: 33 s of silence, and the older STARTUP goes first. -/
theorem test_link_restored_after_33_seconds :
    (match exec (.poll 43000 (trunkFrame 17 3 []).bytes)
        { reporting [alarmOf (.startUp .whole 0)] [] [] with
          trunk := { running.trunk with link := .silent, silentSince := some 10000 } } with
      | .next t => t.reports.alarms.map Alarm.detail
      | _ => []) = [AlarmDetail.linkRestored 33] := by decide +kernel
/-- A second past 59 carries into the minute (02 R25). -/
theorem test_second_tick_carries :
    (match exec (.secondTick true) { site with clock := { site.clock with second := 59 } } with
      | .next t => (t.clock.minute, t.clock.second)
      | _ => (0, 0)) = (1, 0) := by decide +kernel
/-- An UNLOCK for 20 units is 5 s (07 section 7.3). -/
theorem test_remote_release_unlocks_for_five_seconds :
    (match exec .remoteRelease (asked 19 [1, 0] site) with
      | .next t => ((t.door 0).image.unlocked, (t.door 0).waitTimer.map Countdown.duration)
      | _ => (false, none)) = (true, some 5000) := by decide +kernel
/-- The WAIT's end locks the door again and ends the program (07 R129, R131). -/
theorem test_wait_expiry_locks :
    (match exec (.waitExpiry 0) (withDoor releasedDoor site) with
      | .next t => some (t.door 0)
      | _ => none) = some Door.atReset := by decide +kernel
/-- Three misses are OFFLINE, and the door of the driver faults (08 R150, 07 R138). -/
theorem test_third_miss_faults_the_door :
    (match exec .visitTimeout (visiting 2) with
      | .next t => ((t.station 2).online, (t.door 0).state, (t.door 0).cause)
      | _ => (.online, .secure, none)) = (.offline, .fault, some .offline) := by decide +kernel
/-- Three cells of one half retire it whole (11 R178, R179). -/
theorem test_self_test_retires_a_half :
    (match exec (.selfTestEnd 300 [0, 1, 2]) State.reset with
      | .next t => (t.retired.store, t.retired.count, t.phase)
      | _ => (.whole, 0, .running)) = (.half, 1024, .settingsLoad .powerOn) := by decide +kernel
/-- A presentation of the permit's holder opens the door and puts it on the roll (04 R74, R75); the same card stays outside a
LOCKED room (04 R61). -/
theorem test_presentations :
    let shown := fun (mode : RoomMode) =>
      match exec (.fieldFrame 10 (replyBytes 0 ([1] ++ bytesOf 4 77 ++ [1, 0]) []) 5)
        { site with
          rooms := put site.rooms 0 { site.room 0 with mode := mode }
          field := { site.field with visit := some (visitTo 0) } } with
      | .next t => (t.roll.map Presence.credential, (t.door 0).state, t.entryImage 0)
      | _ => ([], .forced, .idle)
    shown .normal = ([77], .released, .granted) ∧ shown .locked = ([], .secure, .denied) := by decide +kernel
/-- Under a timeout that ends at 20 ms: an ignored frame that ends 1 ms before leaves the visit open, and one that ends at it is a
missed reply; a reply that begins at it is taken, and one that begins 1 ms later is a missed reply (08 R147). -/
theorem test_frames_at_the_timeout :
    let after := fun (moment began : Nat) (f : Frame) => match exec (.fieldFrame moment f.bytes began) (visiting 1) with
      | .next t => (t.field.visit.isSome, (t.station 2).missed, t.now)
      | _ => (false, 9, 0)
    after 19 15 (trunkFrame 9 4 [0, 0]) = (true, 1, 19) ∧ after 20 15 (trunkFrame 9 4 [0, 0]) = (false, 2, 20) ∧
    after 24 20 (plainReply 2) = (false, 0, 24) ∧ after 25 21 (plainReply 2) = (false, 2, 20) := by decide +kernel
/-- A differing image whose second clearing is cut short stands in the memory under its signature (11 R183). -/
theorem test_cut_in_the_second_clearing :
    (match exec (.powerLost (.beforeSecondClear (imageOf running.settings 18))) saving with
      | .next t => t.memory
      | _ => running.memory) = { signature := true, image := some (imageOf running.settings 18) } := rfl
/-- The escort's exit leaves its contractor UNESCORTED and ends its lead (06 R106, R107, 05 R92). -/
theorem test_escort_leaves :
    (let t := escorted.present { reader := 1, credential := 88, issueLevel := 1, intent := .pass }
     (t.roll.map fun p => (p.credential, p.contractor.map fun k => (k.escort, k.unescorted)),
      t.slot 0, t.reports.alarms.map Alarm.detail))
      = ([(77, some (none, true))], .empty, [AlarmDetail.escortLeft 88 .exit]) := by decide +kernel
/-- A count of records removed has one byte, a count of records held two (12 R184). -/
theorem test_counts_removed_are_one_byte :
    encodeData (.purged 3 2046) = [3#8, 7#8, 254#8] ∧ encodeData (.tablesCleared 2 255 2048) = [2#8, 255#8, 8#8, 0#8] ∧
    encodeData (.staffHeld 255) = [0#8, 255#8] := by decide
/-- A window across midnight (02 R33). -/
theorem test_window_across_midnight : windowLength 1320 360 = 480 ∧ windowElapsed 1320 0 = 120 := by decide

/-- A 24-hour window that opens at 06:00 on Saturdays alone: 03:20 on Sunday is still Saturday's opening, 06:40 is not (02 R35). -/
theorem test_opening_weekday :
    let g := { grant .none with opens := 360, closes := 360, weekdays := 32#8 }
    let part := { PartSettings.default with epochWeekday := 0 }
    applies part 0 g (6 * 1440 + 200) = true ∧ applies part 0 g (6 * 1440 + 400) = false := by decide +kernel
/-- A contractor granted at room 1 leaves the party it waits in at room 2, which is cleared (05 R99). -/
theorem test_grant_leaves_the_party_elsewhere :
    (let s : State := { site with slots := put site.slots 1 (.party party77) }
     let t := s.present { reader := 0, credential := 77, issueLevel := 1, intent := .pass }
     (t.roll.map fun x => (x.room, x.credential), t.slot 1, t.reports.routine.length)) = ([(0, 77)], .empty, 1) := by
  decide +kernel
/-- A member of staff who may enter alone goes in past another's WAITING lead, which stays (04 R63). -/
theorem test_staff_pass_a_waiting_lead :
    (let l := { lead88 .waiting with staff := 89 }
     let t := (slotted (.lead l) site).present { reader := 0, credential := 88, issueLevel := 1, intent := .pass }
     (t.roll.map fun x => (x.room, x.credential), t.slot 0 == .lead l)) = ([(0, 88)], true) := by decide +kernel

/-! ## What holds of the small states -/

theorem outside_of_none (s : State) (c : Nat) (h : s.roll = []) (k : s.slots = State.reset.slots) : s.outside c := by
  refine ⟨fun p hp => ?_, fun r p hp => ?_⟩
  · rw [h] at hp; cases hp
  · simp [State.slot, k, State.reset] at hp

theorem idle_of_none (s : State) (c : Nat) (h : s.roll = []) (k : s.slots = State.reset.slots) : s.idleStaff c := by
  refine ⟨fun p hp => ?_, fun r p hp => ?_⟩
  · rw [h] at hp; cases hp
  · simp [State.slot, k, State.reset] at hp

theorem notWaiting_of (s : State) (r : RoomId) (c : Nat)
    (k : (match s.slot r with | .party y => y.members.all fun m => m.credential != c | _ => true) = true) :
    ∀ y, s.slot r = .party y → ∀ m ∈ y.members, m.credential ≠ c := by
  intro y hy m hm
  rw [hy] at k
  exact bne_iff_ne.mp (List.all_eq_true.mp k m hm)

theorem slot_of_put (s : State) (x y : Slot) (r : RoomId) (k : s.slots = put State.reset.slots 0 x) (h : s.slot r = y)
    (n : y ≠ .empty) : r = 0 ∧ x = y := by
  unfold State.slot at h
  rw [k, look_put] at h
  by_cases e : (0 : RoomId) = r
  · exact ⟨e.symm, by simpa [e] using h⟩
  · simp [e, State.reset] at h
    exact absurd h.symm n

theorem onePlace_of_none (s : State) (h : s.permits = site.permits) (g : s.roster = site.roster)
    (k : s.slots = State.reset.slots) (d : (s.roll.map Presence.credential).Nodup) : s.onePlace := by
  have e : ∀ r, s.slot r = .empty := fun r => by simp [State.slot, k, State.reset]
  constructor <;> simp_all [site, siteOf, permit, staff]

theorem inside_onePlace : inside.onePlace := onePlace_of_none inside rfl rfl rfl (by decide)

theorem waiting_onePlace : waiting.onePlace := by
  have e : ∀ r p, waiting.slot r = .party p → r = 0 ∧ p = party77 := fun r p h => by
    have := slot_of_put waiting (.party party77) _ r rfl h (by simp)
    exact ⟨this.1, by simpa using this.2.symm⟩
  have n : ∀ r l, waiting.slot r ≠ .lead l := fun r l h => by
    have := slot_of_put waiting (.party party77) _ r rfl h (by simp)
    simp at this
  constructor
  · decide
  · decide
  · intro r p _ m _ x hx; cases hx
  · intro r p h m hm
    rw [(e r p h).2] at hm
    revert m; decide
  · intro r p h
    rw [(e r p h).2]; decide
  · intro r q p k hn h g
    exact absurd ((e r p h).1.trans (e q k g).1.symm) hn
  · intro r l h; exact absurd h (n r l)
  · intro r l h; exact absurd h (n r l)
  · intro r q l k _ h; exact absurd h (n r l)

/-! ## Witnesses: a state and operands that meet the hypotheses of each statement -/

theorem witness_step_runs :
    ({ running with pending := [.restartReset, .poll 0 []] } : State).pending = .restartReset :: [.poll 0 []] ∧
    running.pending = [] := ⟨rfl, rfl⟩

theorem witness_stations : (visiting 3).stationsSound ∧ ∃ t, step { visiting 3 with pending := [.visitTimeout] } = .next t := by
  refine ⟨?_, _, rfl⟩
  unfold State.stationsSound StationState.sound
  decide

theorem door_witness : releasedDoor.sound := by constructor <;> decide

theorem witness_doors : (withDoor releasedDoor site).doorsSound ∧
    ∃ t, step { withDoor releasedDoor site with pending := [.waitExpiry 0] } = .next t := by
  refine ⟨fun r => ?_, _, rfl⟩
  unfold State.door withDoor
  rw [look_put]
  split
  · exact door_witness
  · show (look (Vector.replicate 6 Door.atReset) r).sound
    rw [look_replicate]
    constructor <;> decide

theorem witness_queues : saving.queuesSound ∧ ∃ t, step { saving with pending := [.saveWriteEnd 0 .complete] } = .next t :=
  ⟨⟨⟨by decide, by decide, by decide, by decide, by decide⟩, by decide, by decide, by decide, fun _ => by decide⟩, _, rfl⟩

theorem witness_clock : site.clock.sound ∧ ∃ t, step { site with pending := [.secondTick true] } = .next t :=
  ⟨by constructor <;> decide, _, rfl⟩

theorem witness_tables : site.tablesSound ∧ ∃ t, step { site with pending := [.loadPermit] } = .next t := by
  refine ⟨?_, _, rfl⟩
  constructor <;> try decide
  intro p hp
  have : p = permit .none := by simpa [site, siteOf] using hp
  subst this
  constructor <;> decide

theorem witness_people : waiting.peopleSound ∧ ∃ t, step { waiting with pending := [.partyWindowExpiry 0] } = .next t := by
  refine ⟨⟨by decide, fun r => ?_⟩, _, rfl⟩
  by_cases e : waiting.slot r = .empty
  · rw [e]; trivial
  · rw [← (slot_of_put waiting (.party party77) _ r rfl rfl e).2]
    exact ⟨by decide, by decide, fun _ => by decide⟩

theorem witness_one_place : waiting.onePlace ∧ inside.onePlace ∧
    ∃ t, step { waiting with pending := [.partyWindowExpiry 0] } = .next t := ⟨waiting_onePlace, inside_onePlace, _, rfl⟩

theorem witness_settings : saving.settingsSound ∧ saving.copySound ∧
    ∃ t, step { saving with pending := [.saveWriteEnd 0 .complete] } = .next t := by
  refine ⟨?_, ?_, _, rfl⟩
  · unfold State.settingsSound; decide +kernel
  · show imageGood (imageOf running.settings 17) = true
    decide +kernel

theorem witness_what_may_change : running.phase = .running ∧
    ∃ t, exec (.timeFrame 0 []) running = .next t ∧ t.phase = .running := ⟨rfl, _, rfl, by decide⟩

/-- The boundary values: no byte and a byte that is no start byte before, the largest header bytes, 0 and 200 payload bytes. -/
theorem witness_frames :
    (0 < 256 ∧ ([] : List Byte).length ≤ 200 ∧ ∀ b ∈ ([] : List Byte), b ≠ 0xA7#8) ∧
    (255 < 256 ∧ (List.replicate 200 (0xA7#8)).length ≤ 200 ∧ ∀ b ∈ [0#8, 0xA6#8], b ≠ 0xA7#8) := by
  refine ⟨⟨by decide, by decide, by decide⟩, by decide, ?_, by decide⟩
  rw [List.length_replicate]

theorem witness_saved : saving.phase = .running ∧ saving.settingsSound ∧
    saving.executor = .saving 5 (imageOf saving.settings saving.trunk.address) ∧
    imageGood (imageOf saving.settings saving.trunk.address) = true ∧
    imageGood (imageOf saving.settings 251) = false := by
  refine ⟨rfl, ?_, rfl, ?_, ?_⟩
  · unfold State.settingsSound; decide +kernel
  · decide +kernel
  · decide +kernel

/-- For each clause a list of failing cells: none, two and three of the low half, and the same of the high half. -/
theorem witness_self_test : State.reset.phase = .selfTest .powerOn ∧
    (let low := fun (f : List Nat) => ((List.range' 0 1024).filter fun c => f.contains c).length
     let high := fun (f : List Nat) => ((List.range' 1024 1024).filter fun c => f.contains c).length
     (low [] = 0 ∧ high [] = 0) ∧ (low [0, 1023] = 2 ∧ high [0, 1023] = 0) ∧ low [0, 1, 1023] = 3 ∧
     (low [1024, 2047] = 0 ∧ high [1024, 2047] = 2) ∧ high [1024, 1025, 2047] = 3 ∧
     (low [0, 1024, 1025, 2047] = 1 ∧ high [0, 1024, 1025, 2047] = 3)) := by
  refine ⟨rfl, ?_⟩
  decide +kernel

theorem witness_settings_load : ({ running with phase := .settingsLoad .restart } : State).phase = .settingsLoad .restart ∧
    validImage { signature := true, image := some (imageOf Settings.default 254) } true = some (imageOf Settings.default 254) ∧
    validImage State.reset.memory true = none :=
  ⟨rfl, by decide +kernel, rfl⟩

theorem witness_restart : (asked 25 [] running).atHead 5 25 [] [] ∧
    (∃ s : State, s.phase = .running ∧ s.trunk.reply = some { frame := [], carriesRestart := true }) ∧
    (∃ s : State, s.phase = .running ∧ s.executor = .restartSent) :=
  ⟨asked_atHead _ _ _ ⟨rfl, rfl⟩ (by decide),
   ⟨{ running with trunk := { running.trunk with reply := some { frame := [], carriesRestart := true } } }, rfl, rfl⟩,
   ⟨{ running with executor := .restartSent }, rfl, rfl⟩⟩

/-- Seconds 59 and 60 on the two sides, the last minute, and both destinations. -/
theorem witness_time_frame : running.listening ∧ 4294967295 < 4294967296 ∧ 59 ≤ 59 ∧ 60 ≤ 60 ∧ 255 < 256 ∧
    17 = running.trunk.address ∧ assignedAddress 17 := by
  unfold State.listening assignedAddress
  decide

/-- Assigned and unassigned, with 3 and 4 requests waiting. -/
theorem witness_command_frame : running.listening ∧ assignedAddress running.trunk.address ∧
    running.trunk.commands.length < 4 ∧
    (∃ s : State, s.listening ∧ assignedAddress s.trunk.address ∧ s.trunk.commands.length = 4) ∧
    (∃ s : State, s.listening ∧ s.trunk.address = 254 ∧ numberOf ([0x02#8, 0x65#8, 0xAA#8, 0xF8#8].take 4) = s.serial) := by
  unfold State.listening assignedAddress
  refine ⟨by decide, by decide, by decide, ⟨{ running with trunk := { running.trunk with
      commands := List.replicate 4 { tag := 0, name := 0, body := [] } } }, by decide, by decide, by decide⟩,
    ⟨{ running with trunk := State.reset.trunk }, by decide, by decide, by decide⟩⟩

theorem witness_poll : (reporting [alarmOf (.startUp .whole 0)] [] []).listening ∧
    (reporting [] [answerOf 25] []).reports.alarms = [] ∧ (reporting [] [answerOf 25] []).reports.answers = answerOf 25 :: [] ∧
    (reporting [] [] [itemOf]).reports.answers = [] ∧ (reporting [] [] [itemOf]).reports.routine = itemOf :: [] ∧
    running.reports.routine = [] ∧ assignedAddress running.trunk.address ∧ running.trunk.link = .online := by
  unfold State.listening assignedAddress
  decide

theorem witness_link_restored : ∃ s : State, s.listening ∧ assignedAddress s.trunk.address ∧ s.trunk.link = .silent ∧
    s.trunk.silentSince = some 10000 ∧ s.reports.alarms = [alarmOf (.startUp .whole 0)] ∧
    (∀ b ∈ s.reports.alarms, b.key ≠ (alarmOf (.linkRestored 33)).key) := by
  unfold State.listening assignedAddress
  exact ⟨{ reporting [alarmOf (.startUp .whole 0)] [] [] with
    trunk := { running.trunk with link := .silent, silentSince := some 10000 } }, by decide, by decide, rfl, rfl, rfl,
    by decide⟩

theorem witness_frames_to_nothing : 0 < 256 ∧ 254 < 256 ∧ 254 ≠ 255 ∧ State.reset.trunk.address = 254 ∧
    (List.replicate 200 0#8).length ≤ 200 :=
  ⟨by decide, by decide, by decide, rfl, by rw [List.length_replicate]⟩

/-- Names 0 and 27, bodies too short and of the two invalid credentials, and each ground for the executor to wait. -/
theorem witness_requests_that_change_nothing :
    (asked 0 [] running).atHead 5 0 [] [] ∧ (asked 27 [] running).atHead 5 27 [] [] ∧
    (asked 2 [0, 0, 0] running).atHead 5 2 [0, 0, 0] [] ∧
    (asked 3 (bytesOf 4 0) running).atHead 5 3 (bytesOf 4 0) [] ∧
    (asked 5 (bytesOf 4 4294967295) running).atHead 5 5 (bytesOf 4 4294967295) [] ∧
    (asked 6 [] running).atHead 5 6 [] [] ∧ (asked 9 [] running).atHead 5 9 [] [] ∧ (asked 10 [] running).atHead 5 10 [] [] ∧
    4 ≤ (reporting [] (List.replicate 4 (answerOf 6)) []).reports.answers.length ∧ saving.executor ≠ .free ∧
    State.reset.phase ≠ .running ∧ running.trunk.commands = [] :=
  ⟨asked_atHead _ _ _ ⟨rfl, rfl⟩ (by decide), asked_atHead _ _ _ ⟨rfl, rfl⟩ (by decide),
   asked_atHead _ _ _ ⟨rfl, rfl⟩ (by decide), asked_atHead _ _ _ ⟨rfl, rfl⟩ (by decide),
   asked_atHead _ _ _ ⟨rfl, rfl⟩ (by decide), asked_atHead _ _ _ ⟨rfl, rfl⟩ (by decide),
   asked_atHead _ _ _ ⟨rfl, rfl⟩ (by decide), asked_atHead _ _ _ ⟨rfl, rfl⟩ (by decide), by decide,
   by simp [saving], by decide, rfl⟩

theorem grant_inRange (rule : EscortRule) : (grant rule).inRange := by
  constructor <;> (cases rule <;> decide)

theorem load_inRange : LoadPermitInRange 77 12 3 0 0 [grant .none] := by
  constructor <;> try decide
  intro g hg
  have : g = grant .none := by simpa using hg
  rw [this]
  exact grant_inRange _

/-- An insertion with room, one into a memory retired whole, a replacement with and without room, and a staff credential. -/
theorem witness_load_permit :
    (asked 1 (loadPermitBytes 77 12 3 0 0 [grant .none]) running).atHead 5 1 (loadPermitBytes 77 12 3 0 0 [grant .none]) [] ∧
    running.permitOf 77 = none ∧ running.staffOf 77 = none ∧ 2 ≤ (freeCells running.retired running.permits).length ∧
    (freeCells { low := { cells := [], whole := true }, high := { cells := [], whole := true } } []).length < 2 ∧
    site.permitOf 77 = some (permit .none) ∧ site.staffOf 77 = none ∧
    2 ≤ (freeCells site.retired (site.permits.filter fun p => p.credential != 77)).length ∧
    site.permitOf 88 = none ∧ site.staffOf 88 = some staff :=
  ⟨asked_atHead _ _ _ ⟨rfl, rfl⟩ (by decide), rfl, rfl, by decide +kernel, by decide +kernel, by decide, by decide,
   by decide +kernel, by decide, by decide⟩

/-- A permit in each of the three states, whose holder is outside. -/
theorem witness_suspend_and_revoke : validCredential 77 = true ∧
    (asked 3 (bytesOf 4 77) site).atHead 5 3 (bytesOf 4 77) [] ∧ (asked 5 (bytesOf 4 77) site).atHead 5 5 (bytesOf 4 77) [] ∧
    (asked 3 (bytesOf 4 77) site).permitOf 77 = some (permit .none) ∧ (asked 3 (bytesOf 4 77) site).outside 77 ∧
    ({ site with permits := [{ permit .none with state := .suspended }] } : State).permitOf 77
      = some { permit .none with state := .suspended } ∧
    ({ site with permits := [{ permit .none with state := .revoked }] } : State).permitOf 77
      = some { permit .none with state := .revoked } :=
  ⟨by decide, asked_atHead _ _ _ ⟨rfl, rfl⟩ (by decide), asked_atHead _ _ _ ⟨rfl, rfl⟩ (by decide), by decide,
   outside_of_none _ _ rfl rfl, by decide, by decide⟩

/-- SUSPEND and REVOKE of an ACTIVE permit and REVOKE of a SUSPENDED one, of a holder inside and of one in a party. -/
theorem witness_withdrawal : validCredential 77 = true ∧
    (asked 3 (bytesOf 4 77) inside).atHead 5 3 (bytesOf 4 77) [] ∧ (asked 5 (bytesOf 4 77) inside).atHead 5 5 (bytesOf 4 77) [] ∧
    (permit .none).state = .active ∧ ({ permit .none with state := .suspended } : Permit).state ≠ .revoked ∧ inside.onePlace ∧
    inside.permitOf 77 = some (permit .none) ∧ inside.presenceOf 77 = some present77 ∧ present77.contractor ≠ none ∧
    (asked 3 (bytesOf 4 77) waiting).atHead 5 3 (bytesOf 4 77) [] ∧ (asked 5 (bytesOf 4 77) waiting).atHead 5 5 (bytesOf 4 77) [] ∧
    waiting.onePlace ∧ waiting.permitOf 77 = some (permit .staff) ∧ waiting.slot 0 = .party party77 ∧
    member77 ∈ party77.members ∧ member77.credential = 77 :=
  ⟨by decide, asked_atHead _ _ _ ⟨rfl, rfl⟩ (by decide), asked_atHead _ _ _ ⟨rfl, rfl⟩ (by decide), rfl, by decide,
   inside_onePlace, by decide, by decide, by decide, asked_atHead _ _ _ ⟨rfl, rfl⟩ (by decide),
   asked_atHead _ _ _ ⟨rfl, rfl⟩ (by decide), waiting_onePlace, by decide, by decide, by decide, rfl⟩

/-- Credentials 0, 1 without a record, 77 with one, 4,294,967,294 and 4,294,967,295. -/
theorem witness_resume_permit :
    (asked 4 (bytesOf 4 0) site).atHead 5 4 (bytesOf 4 0) [] ∧
    (asked 4 (bytesOf 4 4294967295) site).atHead 5 4 (bytesOf 4 4294967295) [] ∧
    (asked 4 (bytesOf 4 1) site).atHead 5 4 (bytesOf 4 1) [] ∧ site.permitOf 1 = none ∧
    (asked 4 (bytesOf 4 4294967294) site).atHead 5 4 (bytesOf 4 4294967294) [] ∧ site.permitOf 4294967294 = none ∧
    (asked 4 (bytesOf 4 77) site).atHead 5 4 (bytesOf 4 77) [] ∧ site.permitOf 77 = some (permit .none) :=
  ⟨asked_atHead _ _ _ ⟨rfl, rfl⟩ (by decide), asked_atHead _ _ _ ⟨rfl, rfl⟩ (by decide),
   asked_atHead _ _ _ ⟨rfl, rfl⟩ (by decide), by decide, asked_atHead _ _ _ ⟨rfl, rfl⟩ (by decide), by decide,
   asked_atHead _ _ _ ⟨rfl, rfl⟩ (by decide), by decide⟩

theorem witness_reads : (asked 6 (bytesOf 4 77) site).atHead 5 6 (bytesOf 4 77) [] ∧
    (asked 6 (bytesOf 4 77) site).outside 77 ∧
    (let p : Presence := { present77 with credential := 88, contractor := none }
     let s := asked 10 (bytesOf 4 88) { site with roll := [p] }
     s.atHead 5 10 (bytesOf 4 88) [] ∧ s.staffOf 88 = some staff ∧ s.presenceOf 88 = some p) ∧
    (asked 14 (bytesOf 1 (roomNumber 5) ++ bytesOf 1 23) site).atHead 5 14 (bytesOf 1 (roomNumber 5) ++ bytesOf 1 23) [] ∧
    (asked 23 [] site).atHead 5 23 [] [] :=
  ⟨asked_atHead _ _ _ ⟨rfl, rfl⟩ (by decide), outside_of_none _ _ rfl rfl,
   ⟨asked_atHead _ _ _ ⟨rfl, rfl⟩ (by decide), by decide, by decide⟩, asked_atHead _ _ _ ⟨rfl, rfl⟩ (by decide),
   asked_atHead _ _ _ ⟨rfl, rfl⟩ (by decide)⟩

theorem witness_drops : (asked 2 (bytesOf 4 77) site).atHead 5 2 (bytesOf 4 77) [] ∧
    (asked 2 (bytesOf 4 77) site).outside 77 ∧ site.permitOf 77 = some (permit .none) ∧
    inside.permitOf 77 = some (permit .none) ∧ inside.presenceOf 77 = some present77 ∧
    (asked 9 (bytesOf 4 88) site).atHead 5 9 (bytesOf 4 88) [] ∧ site.staffOf 88 = some staff ∧ site.idleStaff 88 ∧
    (let p : Presence := { present77 with credential := 88, contractor := none }
     ({ site with roll := [p] } : State).presenceOf 88 = some p) :=
  ⟨asked_atHead _ _ _ ⟨rfl, rfl⟩ (by decide), outside_of_none _ _ rfl rfl, by decide, by decide, by decide,
   asked_atHead _ _ _ ⟨rfl, rfl⟩ (by decide), by decide, idle_of_none _ _ rfl rfl, by decide⟩

theorem witness_purge_and_clear : (asked 7 [] running).atHead 5 7 [] [] ∧ running.clock.timeState = .unset ∧
    (asked 7 [] site).atHead 5 7 [] [] ∧ site.clock.timeState ≠ .unset ∧
    (asked 11 [] site).atHead 5 11 [] [] ∧ site.roll = [] ∧ (∀ r, site.slot r = .empty) ∧
    (asked 11 [] inside).atHead 5 11 [] [] ∧ inside.roll ≠ [] :=
  ⟨asked_atHead _ _ _ ⟨rfl, rfl⟩ (by decide), rfl, asked_atHead _ _ _ ⟨rfl, rfl⟩ (by decide), by decide,
   asked_atHead _ _ _ ⟨rfl, rfl⟩ (by decide), rfl, by decide, asked_atHead _ _ _ ⟨rfl, rfl⟩ (by decide), by decide⟩

/-- The credential of a permit, a new one, one held already, and a roster of 256. -/
theorem witness_load_escort : validCredential staff.credential = true ∧ 1 ≤ staff.staffNumber ∧ staff.ratio ≤ 4 ∧
    (let body := bytesOf 4 88 ++ bytesOf 3 5 ++ bytesOf 4 4294967295 ++ bytesOf 1 4 ++ bytesOf 1 1 ++ bytesOf 1 1
     (asked 8 body running).atHead 5 8 body []) ∧
    running.permitOf 88 = none ∧ running.staffOf 88 = none ∧ running.roster.length < 256 ∧
    site.staffOf 88 = some staff ∧ site.permitOf 77 = some (permit .none) ∧
    ({ running with roster := List.replicate 256 { staff with credential := 1 } } : State).staffOf 88 = none ∧
    256 ≤ ({ running with roster := List.replicate 256 { staff with credential := 1 } } : State).roster.length :=
  ⟨by decide, by decide, by decide, asked_atHead _ _ _ ⟨rfl, rfl⟩ (by decide), rfl, rfl, by decide, by decide, by decide,
   by decide +kernel, by decide +kernel⟩

/-- An operating change, a check-in interval changed from 0, to 0 and between values above 0, an identity change of a room with a record, and a second room at a taken address. -/
theorem witness_set_room :
    (let new := { roomOne with heldLimit := 600 }
     new.fields.firstBad = none ∧ uniquenessFault site.settings.rooms 0 new = none ∧
     (asked 12 (bytesOf 1 1 ++ encodeRoomSettings new) site).atHead 5 12 (bytesOf 1 1 ++ encodeRoomSettings new) []) ∧
    (∀ n ∈ [0, 5, 60], ({ roomOne with checkInInterval := n } : RoomSettings).fields.firstBad = none ∧
      uniquenessFault inside.settings.rooms 0 { roomOne with checkInInterval := n } = none) ∧
    (inside.roomSettings 0).checkInInterval = 0 ∧
    (let old := { roomOne with checkInInterval := 5 }
     let s : State := { inside with settings := { site.settings with rooms := put site.settings.rooms 0 old } }
     s.roomSettings 0 = old ∧ uniquenessFault s.settings.rooms 0 roomOne = none ∧
     uniquenessFault s.settings.rooms 0 { roomOne with checkInInterval := 60 } = none) ∧
    (let new := { roomOne with roomCode := 4095 }
     new.fields.firstBad = none ∧ roomOne.roomCode ≠ new.roomCode ∧ ∃ p ∈ inside.roll, p.room = 0) ∧
    (site.roomSettings 1).enabled = false ∧ (site.roomSettings 0).enabled = true ∧
    (site.roomSettings 0).entryReader = roomOne.entryReader ∧ roomOne.entryReader ≠ 0 ∧
    (∀ x : RoomId, x ≠ 1 → x ≠ 0 → ∀ place, (site.roomSettings x).placeOf roomOne.entryReader ≠ some place) := by
  refine ⟨⟨by decide, by decide +kernel, asked_atHead _ _ _ ⟨rfl, rfl⟩ (by decide)⟩, by decide +kernel, by decide,
    ⟨by decide, by decide +kernel, by decide +kernel⟩, ⟨by decide, by decide, ?_⟩, by decide, by decide, by decide, by decide, ?_⟩
  · exact ⟨present77, by simp [inside], rfl⟩
  · intro x h1 h0 place
    have : (site.roomSettings x).placeOf roomOne.entryReader = none := by revert x; decide +kernel
    simp [this]

/-- A room that is enabled, with its driver ONLINE and OFFLINE, one that is disabled, one that stays enabled with another lock driver,
ONLINE and OFFLINE, or with another room code and entry reader, and one that stays disabled. -/
theorem witness_set_room_enables : roomOne.fields.firstBad = none ∧
    uniquenessFault running.settings.rooms 0 roomOne = none ∧ (running.roomSettings 0).enabled = false ∧
    running.roll = [] ∧ running.slot 0 = .empty ∧ (running.door 0).sound ∧
    (site.roomSettings 0).enabled = true ∧ RoomSettings.default.fields.firstBad = none ∧
    uniquenessFault site.settings.rooms 0 RoomSettings.default = none ∧
    (visiting 3).driverIsOfflineAt 3 = true ∧ running.driverIsOfflineAt 3 = false ∧
    (let new := { roomOne with lockDriver := 4 }
     let s : State := { site with stations := put site.stations 3 { online := .offline, missed := 3 } }
     new.fields.firstBad = none ∧ uniquenessFault site.settings.rooms 0 new = none ∧ roomOne.lockDriver ≠ new.lockDriver ∧
     (asked 12 (bytesOf 1 (roomNumber 0) ++ encodeRoomSettings new) site).atHead 5 12
       (bytesOf 1 (roomNumber 0) ++ encodeRoomSettings new) [] ∧
     s.driverIsOfflineAt 4 = true ∧ site.driverIsOfflineAt 4 = false ∧ (site.door 0).sound) ∧
    (let new := { roomOne with roomCode := 7, entryReader := 5 }
     new.fields.firstBad = none ∧ uniquenessFault site.settings.rooms 0 new = none ∧ roomOne.lockDriver = new.lockDriver) ∧
    (let new := { RoomSettings.default with roomCode := 7 }
     new.fields.firstBad = none ∧ uniquenessFault running.settings.rooms 0 new = none ∧ new.enabled = false) :=
  ⟨by decide, by decide +kernel, by decide, rfl, by decide, by constructor <;> decide, by decide, by decide, by decide,
   by decide +kernel, by decide +kernel,
   ⟨by decide, by decide +kernel, by decide, asked_atHead _ _ _ ⟨rfl, rfl⟩ (by decide), by decide +kernel, by decide +kernel,
    by constructor <;> decide⟩,
   ⟨by decide, by decide +kernel, rfl⟩, by decide, by decide +kernel, rfl⟩

theorem witness_set_room_mode : (waiting.roomSettings 0).enabled = true ∧ (waiting.room 0).mode = .normal ∧
    waiting.slot 0 = .party party77 ∧ waiting.reports.routine.length + party77.members.length ≤ 32 ∧
    (asked 13 [1, 2] waiting).atHead 5 13 (bytesOf 1 (roomNumber 0) ++ bytesOf 1 2) [] ∧
    (asked 13 [1, 1] waiting).atHead 5 13 (bytesOf 1 (roomNumber 0) ++ bytesOf 1 1) [] ∧
    ((withDoor releasedDoor site).door 0).program = some program20 ∧ program20.kind = .entry ∧
    (leading .waiting).slot 0 = .lead (lead88 .waiting) ∧ (running.roomSettings 0).enabled = false ∧
    (waiting.room 0).mode.code = 0 :=
  ⟨by decide, by decide, by decide, by decide, asked_atHead _ _ _ ⟨rfl, rfl⟩ (by decide),
   asked_atHead _ _ _ ⟨rfl, rfl⟩ (by decide), by decide, rfl, by decide, by decide, by decide⟩

/-- No credential and one named, at a room with a record, an escort and a partner who may be left out, and a disabled room. -/
theorem witness_reconcile : (inside.roomSettings 0).enabled = true ∧ validCredential 77 = true ∧
    (asked 15 [1, 0] inside).atHead 5 15
      (bytesOf 1 (roomNumber 0) ++ bytesOf 1 0 ++ (([] : List Nat).map (bytesOf 4)).flatten) [] ∧
    (asked 15 ([1, 1] ++ bytesOf 4 77) inside).atHead 5 15
      (bytesOf 1 (roomNumber 0) ++ bytesOf 1 1 ++ ([77].map (bytesOf 4)).flatten) [] ∧
    (running.roomSettings 0).enabled = false ∧ (inside.roll.map Presence.credential).Nodup ∧
    (escorted.roll.map Presence.credential).Nodup ∧ (escorted.roomSettings 0).enabled = true ∧
    (asked 15 ([1, 1] ++ bytesOf 4 77) escorted).atHead 5 15
      (bytesOf 1 (roomNumber 0) ++ bytesOf 1 1 ++ ([77].map (bytesOf 4)).flatten) [] ∧
    (paired.roll.map Presence.credential).Nodup :=
  ⟨by decide, by decide, asked_atHead _ _ _ ⟨rfl, rfl⟩ (by decide), asked_atHead _ _ _ ⟨rfl, rfl⟩ (by decide), by decide,
   by decide, by decide, by decide, asked_atHead _ _ _ ⟨rfl, rfl⟩ (by decide), by decide⟩

/-- The empty program and one of eight steps with a WAIT of each bound. -/
theorem witness_set_program :
    (asked 16 (bytesOf 1 7 ++ programBytes []) site).atHead 5 16 (bytesOf 1 7 ++ programBytes []) [] ∧
    (let steps : List Step := [.unlock, .wait 1, .sounderOn, .wait 127, .sounderOff, .beaconOn, .beaconOff, .lock]
     steps.length ≤ 8 ∧ ∀ x ∈ steps, x.inRange) := by
  refine ⟨asked_atHead _ _ _ ⟨rfl, rfl⟩ (by decide), by decide, ?_⟩
  simp [Step.inRange]

theorem witness_cancel_and_resume : ((withDoor releasedDoor site).door 0).program = some program20 ∧
    ((withDoor releasedDoor site).door 0).state ≠ .opened ∧ (site.roomSettings 0).enabled = true ∧
    (asked 17 [1] site).atHead 5 17 (bytesOf 1 (roomNumber 0)) [] ∧ (site.door 0).program = none ∧
    (let d : Door := { Door.atReset with state := .faultHold, cause := some .reported }
     d.sound ∧ ((withDoor d site).door 0).state = .faultHold ∧ (withDoor d site).driverIsOffline 0 = false) ∧
    (asked 18 [1] site).atHead 5 18 (bytesOf 1 (roomNumber 0)) [] ∧ (site.door 0).state ≠ .faultHold ∧
    (running.roomSettings 0).enabled = false :=
  ⟨by decide, by decide, by decide, asked_atHead _ _ _ ⟨rfl, rfl⟩ (by decide), by decide,
   ⟨by constructor <;> decide, by decide, by decide +kernel⟩, asked_atHead _ _ _ ⟨rfl, rfl⟩ (by decide), by decide, by decide⟩

theorem witness_remote_release : (site.roomSettings 0).enabled = true ∧
    (asked 19 [1, 0] site).atHead 5 19 (bytesOf 1 (roomNumber 0) ++ bytesOf 1 Direction.entry.code) [] ∧
    (site.room 0).mode ≠ .locked ∧ (site.door 0).state = .secure ∧ (site.door 0).program = none ∧
    look site.settings.programs (site.roomSettings 0).entryProgram = [.unlock, .wait 20, .lock] ∧
    (({ site with rooms := put site.rooms 0 { site.room 0 with mode := .locked } } : State).room 0).mode = .locked ∧
    look site.settings.programs 1 = [] :=
  ⟨by decide, asked_atHead _ _ _ ⟨rfl, rfl⟩ (by decide), by decide, by decide, by decide, by decide, by decide, by decide⟩

/-- The same speed, KEEP, a speed that differs with and without a party, and a station disabled under its visit. -/
theorem witness_set_station :
    (asked 20 [3, 1, 0, 3] (visiting 0)).atHead 5 20 (bytesOf 1 (fieldAddress 2) ++ bytesOf 1 StationKind.lockDriver.code
      ++ bytesOf 1 (yesNo false) ++ bytesOf 1 3) [] ∧
    (visiting 0).field.visit = some (visitTo 2) ∧ site.settings.part.lineSpeed.code = 1 ∧
    (allRooms.countP fun r => (waiting.slot r).isParty) = 1 ∧ (allRooms.countP fun r => (site.slot r).isParty) = 0 :=
  ⟨asked_atHead _ _ _ ⟨rfl, rfl⟩ (by decide), by decide, by decide, by decide, by decide⟩

/-- A speed that differs while a party waits, the settings in force sent again, and another shift. -/
theorem witness_set_part :
    (let new := { PartSettings.default with lineSpeed := .baud115200 }
     new.fields.firstBad = none ∧ (asked 21 (encodePart new) waiting).atHead 5 21 (encodePart new) [] ∧
     waiting.settings.part.lineSpeed ≠ new.lineSpeed) ∧
    (PartSettings.default.fields.firstBad = none ∧ site.settings.part = PartSettings.default) ∧
    (let new := { PartSettings.default with shift := 7 }
     new.fields.firstBad = none ∧ site.settings.part.shift ≠ new.shift) :=
  ⟨⟨by decide, asked_atHead _ _ _ ⟨rfl, rfl⟩ (by decide), by decide⟩, ⟨by decide, rfl⟩, by decide, by decide⟩

/-- Payloads of 1 and 160 bytes, an enabled and a disabled station, 7 and 8 items waiting. -/
theorem witness_carry :
    (asked 22 (bytesOf 1 (fieldAddress 2) ++ bytesOf 1 1 ++ [0]) site).atHead 5 22
      (bytesOf 1 (fieldAddress 2) ++ bytesOf 1 1 ++ [0]) [] ∧
    (List.replicate 160 (0 : Byte)).length ≤ 160 ∧ (site.stationSettings 2).enabled = true ∧
    (site.stationSettings 0).enabled = false ∧ site.field.carryDown.length < 8 ∧
    (let items := List.replicate 8 ({ station := 2, tag := 0, payload := [1], riding := false } : CarryItem)
     8 ≤ ({ site with field := { site.field with carryDown := items } } : State).field.carryDown.length) :=
  ⟨asked_atHead _ _ _ ⟨rfl, rfl⟩ (by decide), by rw [List.length_replicate], by decide, by decide, by decide, by decide⟩

theorem witness_save_settings : (asked 24 [] running).atHead 5 24 [] [] ∧ saving.phase = .running ∧
    saving.executor = .saving 5 (imageOf running.settings 17) :=
  ⟨asked_atHead _ _ _ ⟨rfl, rfl⟩ (by decide), rfl, rfl⟩

/-- Addresses 0, 1, 250 and 251, at an assigned part and at one that is not. -/
theorem witness_assign_address :
    (asked 26 (bytesOf 4 1 ++ bytesOf 1 250) running).atHead 5 26 (bytesOf 4 1 ++ bytesOf 1 250) [] ∧
    ¬ assignedAddress 0 ∧ assignedAddress 1 ∧ assignedAddress 250 ∧ ¬ assignedAddress 251 ∧ running.trunk.address ≠ 254 ∧
    ({ running with trunk := State.reset.trunk } : State).trunk.address = 254 := by
  refine ⟨asked_atHead _ _ _ ⟨rfl, rfl⟩ (by decide), ?_⟩
  unfold assignedAddress
  decide

/-- Seconds 58 and 59, and a count that reaches 1440. -/
theorem witness_second_tick : site.phase = .running ∧ site.clock.second < 59 ∧ site.roll = [] ∧
    (let c := { site.clock with second := 59, sinceTime := 1439 }
     59 ≤ c.second ∧ min (c.sinceTime + 1) 65535 = 1440 ∧ c.timeState = .set) ∧
    (let c := { site.clock with second := 59 }
     ¬ (min (c.sinceTime + 1) 65535 = 1440 ∧ c.timeState = .set)) := by decide

/-- A record whose stay deadline and check-in deadline are both reached at the next minute. -/
theorem witness_minute_event :
    (let s : State := { inside with clock := { site.clock with second := 59 } }
     s.phase = .running ∧ 59 ≤ s.clock.second ∧ (s.roll.map Presence.credential).Nodup ∧
     present77 ∈ s.roll ∧ ∃ k, present77.contractor = some k ∧ k.overstayRaised = false ∧ k.stayDeadline ≤ 1 ∧
       k.checkIn = .armed 0) := by
  refine ⟨rfl, by decide, by decide, by simp [inside], _, rfl, rfl, by decide, rfl⟩

/-- A visit with and without an item, an outstanding one, and the choice past the last address. -/
theorem witness_visit_send :
    (let s : State := { site with field := { site.field with chosen := some 2 } }
     s.phase = .running ∧ s.field.visit = none ∧ s.field.chosen = some 2 ∧
     s.placeOf (fieldAddress 2) = some (0, .lockDriver) ∧ s.placeOf (fieldAddress 0) = some (0, .entryReader) ∧
     s.placeOf (fieldAddress 1) = some (0, .exitReader) ∧ s.placeOf (fieldAddress 3) = none ∧ s.field.carryDown = []) ∧
    (let i : CarryItem := { station := 2, tag := 0, payload := [1], riding := false }
     let j : CarryItem := { i with station := 1 }
     [j, i] = [j] ++ i :: [] ∧ i.station = 2 ∧ ∀ x ∈ [j], x.station ≠ 2) ∧
    (visiting 0).field.visit ≠ none ∧ site.field.chosen = none ∧ nextStation site.settings.stations (some 2) = some 2 := by
  refine ⟨by decide +kernel, by decide, by decide, rfl, by decide +kernel⟩

/-- Missed counts of 1, 2 and 3, no riding item and one, a door already in a fault, and an unfinished frame. -/
theorem witness_missed_visits : (visiting 1).phase = .running ∧ (visiting 1).field.visit = some (visitTo 2) ∧
    ((visiting 1).station 2).missed = 1 ∧ ((visiting 2).station 2).missed = 2 ∧ ((visiting 3).station 2).missed = 3 ∧
    (visiting 2).placeOf (fieldAddress 2) = some (0, .lockDriver) ∧ ((visiting 2).door 0).state ≠ .fault ∧
    ((visiting 2).door 0).state ≠ .faultHold ∧ (visiting 1).field.carryDown = [] ∧
    (running.placeOf (fieldAddress 2) = none) ∧
    (let i : CarryItem := { station := 2, tag := 0, payload := [1], riding := true }
     [i] = [] ++ i :: [] ∧ i.riding = true ∧
     (∀ n ∈ [0, 1, 2, 3], ({ visiting n with field := { (visiting n).field with carryDown := [i] } } : State).field.carryDown = [i] ∧
       ((visiting n).station 2).missed = n)) ∧
    ((withDoor { Door.atReset with state := .fault, cause := some .reported } (visiting 2)).door 0).state = .fault ∧
    1 < (plainReply 2).bytes.length ∧
    (let f := trunkFrame 1 4 [0, 0]
     1 ≤ f.destination ∧ f.destination < 256 ∧ f.payload.length ≤ 200 ∧ 20 ≤ (visitTo 2).timeout.ends ∧
     (visitTo 2).timeout.ends < 21 ∧
     (visitTo 2).timeout.ends ≤ max (visiting 1).now 20 ∧ max (visiting 1).now 19 < (visitTo 2).timeout.ends) := by
  refine ⟨rfl, by decide, by decide, by decide, by decide, by decide +kernel, by decide, by decide, rfl, by decide +kernel,
    ⟨rfl, rfl, by decide⟩, by decide, by decide +kernel, by decide⟩

/-- A length of 201, a wrong CRC, another source, another kind, and an empty payload. -/
theorem witness_bad_field_frames :
    badFieldFrame 2 .lockDriver [0xA7#8, 0, 3, 4, 201] ∧
    badFieldFrame 2 .lockDriver ([0xA7#8] ++ (plainReply 2).covered ++ [0, 0]) ∧
    badFieldFrame 2 .lockDriver (plainReply 1).bytes ∧
    badFieldFrame 2 .lockDriver ({ plainReply 2 with kind := 5 } : Frame).bytes ∧
    badFieldFrame 2 .lockDriver ({ plainReply 2 with payload := [] } : Frame).bytes := by
  refine ⟨.inl ⟨0, 3, 4, 201, by decide, rfl⟩,
    .inr ⟨plainReply 2, by decide, by decide, by decide, by decide, .inl ⟨[0, 0], rfl, by decide +kernel, rfl⟩⟩,
    .inr ⟨plainReply 1, by decide, by decide, by decide, by decide, .inr ⟨rfl, .inl (by decide), rfl⟩⟩,
    .inr ⟨{ plainReply 2 with kind := 5 }, by decide, by decide, by decide, by decide, .inr ⟨rfl, .inr (.inl (by decide)), rfl⟩⟩,
    .inr ⟨{ plainReply 2 with payload := [] }, by decide, by decide, by decide, by decide, .inr ⟨rfl, .inr (.inr ?_), rfl⟩⟩⟩
  rintro ⟨body, up, -, -, e⟩
  have := congrArg List.length e
  cases up <;> simp at this

/-- A carry-up payload of 160 bytes, a reader, a lock driver with four events, and an OFFLINE driver whose door is in FAULT. -/
theorem witness_field_frames : site.field.visit = none ∧ (visiting 0).field.visit = some (visitTo 2) ∧
    (List.replicate 160 (0 : Byte)).length ≤ 160 ∧ ((visiting 0).station 2).online ≠ .offline ∧
    (site.stationSettings 0).kind = .reader ∧ (site.stationSettings 2).kind = .lockDriver ∧
    [DriverEvent.opened, .closed, .button, .fault].length ≤ 4 ∧ site.placeOf (fieldAddress 2) = some (0, .lockDriver) ∧
    ((visiting 3).station 2).online = .offline ∧
    (let d : Door := { Door.atReset with state := .fault, cause := some .offline }
     ((withDoor d (visiting 3)).door 0).state = .fault ∧ ((withDoor d (visiting 3)).door 0).cause = some .offline) := by
  refine ⟨rfl, by decide, by rw [List.length_replicate], by decide, by decide, by decide, by decide, by decide +kernel,
    by decide, by decide, by decide⟩

/-- Every door state that the clauses name. -/
theorem witness_driver_events : (∀ x : DoorState, ((withDoor { Door.atReset with state := x } site).door 0).state = x) ∧
    (site.door 0).state = .secure ∧ ((withDoor releasedDoor waiting).door 0).program ≠ none ∧ waiting.slot 0 = .party party77 ∧
    (let d : Door := { Door.atReset with state := .fault, cause := some .reported }
     d.sound ∧ ((withDoor d site).door 0).state = .fault ∧ ((withDoor d site).door 0).cause = some .reported) := by
  refine ⟨fun x => ?_, by decide, by decide, by decide, by constructor <;> decide, by decide, by decide⟩
  unfold withDoor State.door
  rw [look_put_self]

theorem witness_door_timers :
    (let c : Countdown := { duration := 30000, ends := 30000 }
     let d : Door := { Door.atReset with state := .opened, heldTimer := some c }
     ((withDoor d site).door 0).state = .opened ∧ ((withDoor d site).door 0).heldTimer = some c) ∧
    (releasedDoor.waitTimer = some { duration := 5000, ends := 5000 } ∧ releasedDoor.program = some program20 ∧
     program20.steps.drop program20.current = [.lock] ∧ releasedDoor.state ≠ .opened) ∧
    (let p := { program20 with steps := [.wait 1, .wait 2], current := 1 }
     p.steps.drop p.current = .wait 2 :: [] ∧ adjustedWait p.steps ≠ some (p.current + 1)) := by
  refine ⟨by decide, by decide, by decide⟩

theorem witness_windows : waiting.slot 0 = .party party77 ∧ party77.members ≠ [] ∧
    waiting.reports.routine.length + party77.members.length ≤ 32 ∧
    (leading .entered).slot 0 = .lead (lead88 .entered) ∧ (leading .waiting).slot 0 = .lead (lead88 .waiting) ∧
    (let o : Overlay := { image := .granted, timer := { duration := 3000, ends := 3000 } }
     let s : State := { site with rooms := put site.rooms 0 { site.room 0 with entryOverlay := some o, exitOverlay := some o } }
     (s.room 0).entryOverlay = some o ∧ (s.room 0).exitOverlay = some o) ∧
    (let c : Countdown := { duration := 10000, ends := 10000 }
     ({ running.trunk with silenceTimer := some c } : TrunkPort).silenceTimer = some c ∧ running.trunk.link = .online) := by
  refine ⟨by decide, by decide, by decide, by decide, by decide, by decide, by decide⟩

/-- The permit's holder at the entry reader, with the intent and the level given. -/
def card (reader : StationId) (credential : Nat) (intent : Intent) : Presentation :=
  { reader := reader, credential := credential, issueLevel := 1, intent := intent }

theorem site_lets (s : State) (p : Presentation) (h : s.lastSeen = State.reset.lastSeen) : s.lets p := by
  intro last hl
  simp [h, State.reset] at hl

/-- Each of the checks' grounds, on the card that meets it. -/
theorem witness_entry_checks : site.placeOf (fieldAddress 0) = some (0, .entryReader) ∧ site.lets (card 0 77 .pass) ∧
    validCredential 0 = false ∧ validCredential 4294967295 = false ∧ validCredential 77 = true ∧
    (site.room 0).mode = .normal ∧ (site.door 0).state = .secure ∧ site.staffOf 1 = none ∧ site.permitOf 1 = none ∧
    site.staffOf 88 = some staff ∧ site.staffOf 77 = none ∧ site.permitOf 77 = some (permit .none) ∧
    running.clock.timeState = .unset ∧ site.clock.timeState ≠ .unset ∧
    (let last : LastPresentation := { credential := 77, moment := 0 }
     look (put site.lastSeen 0 (some last)) 0 = some last ∧
       site.now < last.moment + site.settings.part.repeatSuppression * 500) := by
  refine ⟨by decide +kernel, site_lets _ _ rfl, by decide, by decide, by decide, by decide, by decide, by decide, by decide,
    by decide, by decide, by decide, rfl, by decide, by decide⟩

/-- A permit none of whose grants applies, a member who presents again, the invalid credentials at the exit reader and at addresses
that are no reader, and both policies there. -/
theorem witness_other_presentations :
    (let w := { permit .none with grants := [{ grant .none with zoneMask := 0#32 }] }
     let s : State := { site with permits := [w] }
     s.reachesLock 0 (card 0 77 .pass) w ∧ w.lock = .off ∧
     chooseGrant s.settings.part (s.room 0).zoneIndex s.clock.minute w.grants = none ∧
     denialOf s.settings.part (s.room 0).zoneIndex s.clock.minute w.grants = some (1, .wrongZone)) ∧
    (waiting.placeOf 1 = some (0, .entryReader) ∧ waiting.lets (card 0 77 .pass) ∧ (waiting.room 0).mode = .normal ∧
     (waiting.door 0).state = .secure ∧ waiting.staffOf 77 = none ∧ waiting.permitOf 77 = some (permit .staff) ∧
     waiting.slot 0 = .party party77 ∧ party77.members.find? (fun x => x.credential == 77) = some member77) ∧
    site.placeOf (fieldAddress 1) = some (0, .exitReader) ∧ validCredential 0 = false ∧ validCredential 4294967295 = false ∧
    (∀ r, site.placeOf (fieldAddress 2) ≠ some (r, .entryReader) ∧ site.placeOf (fieldAddress 2) ≠ some (r, .exitReader)) ∧
    site.placeOf (fieldAddress 3) = none ∧ site.settings.part.readerPolicy = .forward ∧
    ({ PartSettings.default with readerPolicy := .drop } : PartSettings).readerPolicy = .drop := by
  refine ⟨⟨⟨by decide +kernel, site_lets _ _ rfl, by decide, by decide, by decide, by decide, by decide,
      notWaiting_of _ _ _ (by decide), by decide, rfl⟩, rfl, by decide +kernel, by decide +kernel⟩,
    ⟨by decide +kernel, site_lets _ _ rfl, by decide, by decide, by decide, by decide, by decide, by decide⟩,
    by decide +kernel, by decide, by decide, by decide +kernel, by decide +kernel, by decide, rfl⟩

/-- A level that the lock refuses; a contractor and a member of staff with a record, whose room is EXACT or UNCERTAIN and whose
entry reader is HARD or SOFT. -/
theorem witness_lock_and_passback :
    (let w := { permit .none with lock := .fixed 2 }
     ({ site with permits := [w] } : State).reachesLock 0 (card 0 77 .pass) w ∧ (2 : Nat) ≠ (card 0 77 .pass).issueLevel) ∧
    inside.reachesLock 0 (card 0 77 .pass) (permit .none) ∧ (permit .none).lock = .off ∧
    inside.presenceOf 77 = some present77 ∧
    chooseGrant inside.settings.part (inside.room 0).zoneIndex inside.clock.minute (permit .none).grants
      = some { index := 1, rule := .none, allowance := 60 } ∧
    (inside.roll.map Presence.credential).Nodup ∧
    escorted.reachesStaff 0 (card 0 88 .pass) staff ∧ escorted.presenceOf 88 = some present88 ∧
    (∀ y, escorted.slot 0 ≠ .party y) ∧ (escorted.roll.map Presence.credential).Nodup ∧
    (inside.roomSettings 0).passback = .hard ∧ (inside.room 0).rollState = .uncertain ∧
    (let s : State := { inside with
       settings := { inside.settings with rooms := put inside.settings.rooms 0 { roomOne with passback := .soft } }
       rooms := put inside.rooms 0 { inside.room 0 with rollState := .exact } }
     (s.roomSettings 0).passback = .soft ∧ (s.room 0).rollState = .exact) := by
  refine ⟨⟨⟨by decide +kernel, site_lets _ _ rfl, by decide, by decide, by decide, by decide, by decide, ?_, by decide, rfl⟩,
      by decide⟩,
    ⟨by decide +kernel, site_lets _ _ rfl, by decide, by decide, by decide, by decide, by decide, ?_, by decide, rfl⟩, rfl,
    by decide, by decide +kernel, by decide,
    ⟨by decide +kernel, site_lets _ _ rfl, by decide, by decide, by decide, by decide, rfl, by decide +kernel⟩, by decide, ?_,
    by decide, by decide, by decide, by decide, by decide⟩
  · intro y h; exact absurd h (by simp [State.slot, site, siteOf, running, State.reset])
  · intro y h; exact absurd h (by simp [State.slot, inside, site, siteOf, running, State.reset])
  · intro y h
    rw [show escorted.slot 0 = .lead (lead88 .entered) by decide] at h
    cases h

/-- The holder of the site's permit reaches the choice of a grant with another slot, roll, roster or limit too. -/
theorem reaches_in (rule : EscortRule) (s : State) (h : s.permits = [permit rule]) (k : s.lastSeen = State.reset.lastSeen)
    (o : s.offRoll 77)
    (d : s.placeOf 1 = some (0, .entryReader) ∧ (s.room 0).mode = .normal ∧ (s.door 0).state = .secure ∧
      s.staffOf 77 = none ∧ s.clock.timeState = .set ∧
      (match s.slot 0 with | .party y => y.members.all fun m => m.credential != 77 | _ => true) = true) :
    s.reachesChoice 0 (card 0 77 .pass) (permit rule) := by
  obtain ⟨a, b, c, e, f, g⟩ := d
  exact ⟨a, site_lets _ _ k, by decide, b, by simp [c], e, by simp [State.permitOf, h, permit, card], o,
    notWaiting_of _ _ _ g, by simp [f], rfl, .inl rfl⟩

theorem site_reaches (rule : EscortRule) : (siteOf rule).reachesChoice 0 (card 0 77 .pass) (permit rule) :=
  reaches_in rule _ (by cases rule <;> rfl) rfl (fun p hp => (by cases hp)) (by cases rule <;> decide +kernel)

/-- The permit's holder waits in a party at room 2. -/
theorem elsewhere_reaches (rule : EscortRule) :
    ({ siteOf rule with slots := put site.slots 1 (.party party77) } : State).reachesChoice 0 (card 0 77 .pass) (permit rule) :=
  reaches_in rule _ (by cases rule <;> rfl) rfl (fun p hp => (by cases hp)) (by cases rule <;> decide +kernel)

/-- A room with places and one at its limit; a slot that is empty, a lead, a STAFF party and a PAIR party of another firm. -/
theorem witness_contractor_alone : site.reachesChoice 0 (card 0 77 .pass) (permit .none) ∧
    chooseGrant site.settings.part (site.room 0).zoneIndex site.clock.minute (permit .none).grants
      = some { index := 1, rule := .none, allowance := 60 } ∧ (∀ y, site.slot 0 ≠ .party y) ∧
    site.roomCount 0 < (site.roomSettings 0).occupancyLimit ∧ site.roll.length < 64 ∧
    (let full := (List.range' 1 4).map fun c => { present77 with credential := c }
     ({ site with roll := full } : State).roomCount 0 = (site.roomSettings 0).occupancyLimit) ∧
    (∀ x ∈ [Slot.lead (lead88 .waiting), .lead (lead88 .entered), .party (partyOf .staff [member 78]),
        .party (partyOf (.pair 9) [member 78])],
      (slotted x site).reachesChoice 0 (card 0 77 .pass) (permit .none) ∧
      (slotted x site).slot 0 ≠ .party (partyOf (.pair 3) [member 78])) := by
  refine ⟨site_reaches .none, by decide +kernel, fun y h => ?_, by decide, by decide, by decide +kernel, fun x hx => ⟨?_, ?_⟩⟩
  · simp [State.slot, site, siteOf, running, State.reset] at h
  · exact reaches_in .none _ rfl rfl (fun p hp => (by cases hp)) (by revert x; decide +kernel)
  · revert x; decide +kernel

/-- An empty slot, a lead that cannot be used, a STAFF party of 3 and of 4, a PAIR party of another firm and of this one with
2 places and with 1, and each kind of lead with places and without. -/
theorem witness_joins :
    (∀ rule, (siteOf rule).reachesChoice 0 (card 0 77 .pass) (permit rule)) ∧
    (∀ rule ∈ [EscortRule.pair, .staff], chooseGrant site.settings.part (site.room 0).zoneIndex 0 (permit rule).grants
      = some { index := 1, rule := rule, allowance := 60 }) ∧
    (∀ (rule : EscortRule) (x : Slot), x ∈ [Slot.lead (lead88 .entered), .lead (lead88 .waiting),
        .party (partyOf .staff (List.replicate 3 (member 78))), .party (partyOf .staff (List.replicate 4 (member 78))),
        .party (partyOf (.pair 9) [member 78]), .party (partyOf (.pair 3) [member 78])] →
      (slotted x (siteOf rule)).reachesChoice 0 (card 0 77 .pass) (permit rule) ∧
      (slotted x (limited 1 (siteOf rule))).reachesChoice 0 (card 0 77 .pass) (permit rule)) ∧
    site.roomCount 0 + 2 ≤ (site.roomSettings 0).occupancyLimit ∧
    ((limited 1 site).roomSettings 0).occupancyLimit < (limited 1 site).roomCount 0 + 2 ∧
    (slotted (.lead (lead88 .entered)) site).cannotUse 0 (lead88 .entered) ∧
    staff.active = true ∧ (slotted (.lead (lead88 .waiting)) site).slot 0 = .lead (lead88 .waiting) ∧
    (let s : State := { leading .entered with roll := [present88] }
     s.presenceOf 88 = some present88 ∧ present88.room = 0 ∧ s.linkedCount 88 < staff.ratio ∧
     s.roomCount 0 + 1 ≤ (s.roomSettings 0).occupancyLimit ∧
     ((limited 1 s).roomSettings 0).occupancyLimit < (limited 1 s).roomCount 0 + 1 ∧
     s.reachesChoice 0 (card 0 77 .pass) (permit .none)) := by
  refine ⟨site_reaches, by decide +kernel, fun rule x hx => ?_, by decide, by decide, ?_, rfl, by decide, by decide, rfl,
    by decide, by decide, by decide, ?_⟩
  · constructor <;>
    · refine reaches_in rule _ (by cases rule <;> rfl) rfl (fun p hp => (by cases hp)) ?_
      revert x; cases rule <;> decide +kernel
  · intro u _ _
    exact ⟨rfl, .inl fun x hx => by simp [State.presenceOf, slotted, site, siteOf, running, State.reset] at hx⟩
  · exact reaches_in _ _ rfl rfl (show ∀ p ∈ _, _ by decide) (by decide +kernel)

/-- A staff record at the site's room that passes the zone check. -/
theorem staff_reaches (s : State) (u : Staff) (k : s.lastSeen = State.reset.lastSeen)
    (d : s.placeOf 1 = some (0, .entryReader) ∧ (s.room 0).mode = .normal ∧ (s.door 0).state = .secure ∧
      s.staffOf 88 = some u ∧ u.active = true ∧ s.inZone 0 u.zoneMask = true) :
    s.reachesStaff 0 (card 0 88 .pass) u := by
  obtain ⟨a, b, c, e, f, g⟩ := d
  exact ⟨a, site_lets _ _ k, by decide, by simp [b], by simp [c], e, f, g⟩

/-- The member of staff, who may enter alone or not, from outside, at an empty slot, at an ENTERED lead, at its own WAITING lead and
at another's, with a place and without, and with a WAITING lead of its own at room 2. -/
theorem witness_staff_go_in :
    (∀ alone : Bool, ∀ x ∈ [Slot.empty, .lead { lead88 .entered with staff := 89 }, .lead (lead88 .waiting),
        .lead { lead88 .waiting with staff := 89 }],
      let u := { staff with mayEnterAlone := alone }
      let s : State := { slotted x site with roster := [u] }
      s.reachesStaff 0 (card 0 88 .pass) u ∧ s.offRoll 88 ∧ s.slot 0 = x) ∧
    site.roomCount 0 + 1 ≤ (site.roomSettings 0).occupancyLimit ∧ site.roll.length + 1 ≤ 64 ∧
    (let full : State := limited 1 { site with roll := [{ present77 with credential := 1 }] }
     (full.roomSettings 0).occupancyLimit < full.roomCount 0 + 1 ∧ full.offRoll 88 ∧
     full.reachesStaff 0 (card 0 88 .pass) staff) ∧
    (let s : State := { site with slots := put site.slots 1 (.lead (lead88 .waiting)) }
     s.reachesStaff 0 (card 0 88 .pass) staff ∧ s.slot 1 = .lead (lead88 .waiting)) := by
  refine ⟨fun alone x hx => ⟨staff_reaches _ _ rfl ?_, fun p hp => (by cases hp), ?_⟩, by decide, by decide,
    ⟨by decide, show ∀ p ∈ _, _ by decide, staff_reaches _ _ rfl (by decide +kernel)⟩,
    staff_reaches _ _ rfl (by decide +kernel), by decide⟩
  · revert x; cases alone <;> decide +kernel
  · revert x; cases alone <;> decide +kernel

/-- The member of staff at a room of places for every member, for some and for none, outside and inside. -/
theorem witness_collects :
    (let y := partyOf .staff [member77, member 78]
     let s := slotted (.party y) site
     s.reachesStaff 0 (card 0 88 .pass) staff ∧ s.offRoll 88 ∧ s.slot 0 = .party y ∧ y.members ≠ [] ∧
     s.roomCount 0 + 1 ≤ (s.roomSettings 0).occupancyLimit ∧ s.roll.length + 1 ≤ 64 ∧
     (s.completionBounds 0 staff 1).count 2 = 2 ∧ ((limited 2 s).completionBounds 0 staff 1).count 2 = 1 ∧
     ((limited 1 s).completionBounds 0 staff 1).count 2 = 0 ∧
     (let full : State := limited 1 { s with roll := [{ present77 with credential := 1 }] }
      (full.roomSettings 0).occupancyLimit < full.roomCount 0 + 1 ∧ full.offRoll 88) ∧
     (let u : State := { s with roll := [present88] }
      u.reachesStaff 0 (card 0 88 .pass) staff ∧ u.presenceOf 88 = some present88)) :=
  ⟨staff_reaches _ _ rfl (by decide +kernel), fun p hp => (by cases hp), by decide, by decide, by decide, by decide, by decide,
    by decide, by decide, ⟨by decide, show ∀ p ∈ _, _ by decide⟩, staff_reaches _ _ rfl (by decide +kernel), by decide⟩

/-- A record in this room, one in another room, an escort's, a partner's, and none. -/
theorem witness_exits : inside.placeOf (fieldAddress 1) = some (0, .exitReader) ∧ inside.lets (card 1 77 .pass) ∧
    (inside.roll.map Presence.credential).Nodup ∧ inside.presenceOf 77 = some present77 ∧ present77.room = 0 ∧
    (let p := { present77 with room := 1 }
     ({ site with roll := [p] } : State).presenceOf 77 = some p) ∧ site.offRoll 77 ∧ (card 1 77 .checkIn).intent = .checkIn ∧
    (escorted.roll.map Presence.credential).Nodup ∧ escorted.presenceOf 88 = some present88 ∧
    escorted.linkedTo 88 = [77] ∧ escorted.slot 0 = .lead (lead88 .entered) ∧
    (paired.roll.map Presence.credential).Nodup ∧ (paired.presenceOf 77).isSome = true := by
  refine ⟨by decide +kernel, site_lets _ _ rfl, by decide, by decide, rfl, by decide, fun p hp => (by cases hp), rfl, by decide,
    by decide, by decide, by decide, by decide, by decide⟩

/-- Windows of one minute, of a whole day, and across midnight, and a grant in range that applies. -/
theorem witness_daily_windows : (0 ≤ 1439 ∧ 1 ≤ 1 ∧ 1 ≤ 1440) ∧ (1439 ≤ 1439 ∧ 1440 ≤ 1440) ∧
    windowLength 1439 1440 = 1 ∧ windowLength 1320 360 = 480 ∧ windowLength 600 600 = 1440 ∧
    (grant .none).inRange ∧ inDailyWindow (grant .none) 4294967294 = true ∧
    applies PartSettings.default 0 (grant .none) 4294967294 = true ∧
    (∃ s t : State, exec .setPart s = .next t) := by
  refine ⟨by decide, by decide, by decide, by decide, by decide, grant_inRange _, by decide, by decide +kernel,
    running, _, rfl⟩

theorem witness_grant_stages :
    zoneTest .groups16 0 (grant .none).zoneMask = true ∧ zoneTest .groups16 0 0#32 = false ∧
    grantStage PartSettings.default 0 { grant .none with validFrom := 5 } 4 = (2, .notYetValid) ∧
    grantStage PartSettings.default 0 { grant .none with validUntil := 4 } 4 = (2, .expired) := by decide

/-- A full queue of other keys, a queue that holds the key, and a place. -/
theorem witness_alarm_overflow :
    (let a := alarmOf (.timeStale 0 none)
     let full := (List.range' 0 16).map fun n => { alarmOf (.doorForced 0 false) with station := some n }
     16 ≤ full.length ∧ (∀ b ∈ full, b.key ≠ a.key) ∧
     (alarmOf (.timeStale 1 none)).key = a.key ∧ running.reports.alarms.length < 16) ∧
    (asked 23 [] running).atHead 5 23 [] [] ∧
    ({ running.reports with overflow := true } : Reports).overflow = true :=
  ⟨by decide +kernel, asked_atHead _ _ _ ⟨rfl, rfl⟩ (by decide), rfl⟩

end Sys2Proof.Tests
end

/-! PROOF. How a request at the head of the command queue is answered, said once for every request of the catalogue, and the
one-credential requests of chapter 1. -/

namespace Sys2Proof.Machine

/-! ## A request at the head of the command queue (09 R162, R163) -/

/-- The executor may take a request that stands at the head. -/
theorem State.atHead.mayExecute {s : State} {tag name : Nat} {body : List Byte} {rest : List Request}
    (h : s.atHead tag name body rest) : s.mayExecute = true := by
  obtain ⟨running, free, place, -⟩ := h
  simp [State.mayExecute, State.isRunning, running, free, place]

/-- What the rule of a request at the head answers on the state with the request taken, the executor reports. -/
theorem executeNamed_of_atHead {s t : State} {tag name : Nat} {body : List Byte} {rest : List Request}
    {rule : Request → State → Executed} {status : Status} {data : AnswerData} (h : s.atHead tag name body rest)
    (hr : rule { tag := tag, name := name, body := body } (s.taken rest) = answered t status data) :
    s.executeNamed name rule = t.plusAnswer tag name status data := by
  have htaken : s.withTrunk { s.trunk with commands := rest } = s.taken rest := rfl
  rw [executeNamed_answers s name rule _ rest h.mayExecute h.head rfl status data (by rw [htaken, hr]; rfl), htaken, hr]
  rfl

@[simp] theorem taken_permitOf (s : State) (rest : List Request) (c : Nat) : (s.taken rest).permitOf c = s.permitOf c := rfl

/-! ## Requests that name one credential (00 section 0.5, 01 R10 to R13) -/

theorem validCredential_iff {c : Nat} : validCredential c = true ↔ 1 ≤ c ∧ c ≤ 4294967294 := by
  rw [validCredential, within, Bool.and_eq_true, decide_eq_true_iff, decide_eq_true_iff, Config.lastCredential]

/-- A credential that fits its four bytes and is not valid is refused at field 1. -/
theorem credentialField_bytesOf_invalid {c : Nat} (hc : c < 256 ^ 4) (h : validCredential c = false) :
    credentialField (bytesOf 4 c) = .error 1 := by
  simp [credentialField, readAll_one hc, h]

/-! ## RESUME PERMIT (01 R12) -/

section
variable {r : Request} {s : State} {c : Nat}

theorem resumePermitRule_badField {position : Nat} (h : credentialField r.body = .error position) :
    resumePermitRule r s = answered s .badValue (.badField position) := by
  simp [resumePermitRule, h, badValue]

theorem resumePermitRule_absent (h : credentialField r.body = .ok c) (hp : s.permitOf c = none) :
    resumePermitRule r s = answered s .notFound .nothing := by
  simp [resumePermitRule, h, hp]

theorem resumePermitRule_active {p : Permit} (h : credentialField r.body = .ok c) (hp : s.permitOf c = some p)
    (hx : p.state = .active) : resumePermitRule r s = answered s .done (.previousPermitState .active) := by
  simp [resumePermitRule, h, hp, hx]

theorem resumePermitRule_suspended {p : Permit} (h : credentialField r.body = .ok c) (hp : s.permitOf c = some p)
    (hx : p.state = .suspended) :
    resumePermitRule r s = answered (s.setPermitState c .active) .done (.previousPermitState .suspended) := by
  simp [resumePermitRule, h, hp, hx]

theorem resumePermitRule_revoked {p : Permit} (h : credentialField r.body = .ok c) (hp : s.permitOf c = some p)
    (hx : p.state = .revoked) : resumePermitRule r s = answered s .notAllowed .nothing := by
  simp [resumePermitRule, h, hp, hx]

end

/-- RESUME_PERMIT at the head of the queue leaves what its rule answers. -/
theorem exec_resumePermit_of_rule {s t : State} {tag : Nat} {body : List Byte} {rest : List Request} {status : Status}
    {data : AnswerData} (h : s.atHead tag 4 body rest)
    (hr : resumePermitRule { tag := tag, name := 4, body := body } (s.taken rest) = answered t status data) :
    exec .resumePermit s = .next (t.plusAnswer tag 4 status data) :=
  congrArg Host.Outcome.next (executeNamed_of_atHead h hr)

/-- Settles O29: the rule's answer for an invalid credential, for one without a record, and for each permit state. -/
theorem resumePermitRestores : Obligations.ResumePermitRestores := by
  intro tag c rest s hc head
  refine ⟨fun invalid => ?_, fun low high => ?_⟩
  · have hv : validCredential c = false := by
      rw [Bool.eq_false_iff, Ne, validCredential_iff]
      omega
    exact exec_resumePermit_of_rule head (resumePermitRule_badField (credentialField_bytesOf_invalid (by omega) hv))
  · have hf : credentialField (bytesOf 4 c) = .ok c := credentialField_bytesOf (validCredential_iff.mpr ⟨low, high⟩)
    refine ⟨fun absent => exec_resumePermit_of_rule head (resumePermitRule_absent hf absent), fun p held => ?_⟩
    cases hx : p.state with
    | active => exact exec_resumePermit_of_rule head (resumePermitRule_active hf held hx)
    | suspended => exact exec_resumePermit_of_rule head (resumePermitRule_suspended hf held hx)
    | revoked => exact exec_resumePermit_of_rule head (resumePermitRule_revoked hf held hx)

end Sys2Proof.Machine

/-! PROOF. The arithmetic of daily windows, the allowance of a grant and the zone test (02 R33 to R38, 03 R42, R43), and what the
execution of a request leaves unchanged. -/

namespace Sys2Proof.Machine

/-! ## Daily windows (02 R33, R34): one equation for each way the opening can lie -/

theorem windowElapsed_of_le {o m : Nat} (h : o ≤ m) (hm : m ≤ 1439) : windowElapsed o m = m - o := by
  unfold windowElapsed modDay
  omega

theorem windowElapsed_of_lt {o m : Nat} (h : m < o) (ho : o ≤ 1439) : windowElapsed o m = m + 1440 - o := by
  unfold windowElapsed modDay
  omega

theorem windowElapsed_le (o m : Nat) : windowElapsed o m ≤ 1439 := by
  unfold windowElapsed modDay
  omega

/-- The close 1440 is midnight at the end of the day: it needs no case of its own. -/
theorem windowLength_of_lt {o c : Nat} (h : o < c) (hc : c ≤ 1440) : windowLength o c = c - o := by
  unfold windowLength modDay
  split <;> omega

theorem windowLength_of_gt {o c : Nat} (h : c < o) (ho : o ≤ 1439) : windowLength o c = c + 1440 - o := by
  unfold windowLength modDay
  split <;> omega

@[simp] theorem windowLength_self (o : Nat) : windowLength o o = 1440 := by
  simp [windowLength, modDay]

theorem windowLength_pos (o c : Nat) : 1 ≤ windowLength o c := by
  unfold windowLength
  split <;> omega

theorem windowLength_le (o c : Nat) : windowLength o c ≤ 1440 := by
  unfold windowLength modDay
  split <;> omega

/-- The minute at which the remaining minutes of a window of 24 hours are over is that of the next opening (02 R34). -/
theorem next_opening_of_whole_day {o m : Nat} (ho : o ≤ 1439) (hm : m ≤ 1439) :
    (m + (1440 - windowElapsed o m)) % 1440 = o := by
  obtain h | h := Nat.lt_or_ge m o
  · rw [windowElapsed_of_lt h ho]
    omega
  · rw [windowElapsed_of_le h hm]
    omega

/-- The closing minute lies outside every window shorter than 24 hours (02 R33). -/
theorem windowLength_le_windowElapsed_close {o c : Nat} (ho : o ≤ 1439) (hc : c ≤ 1439) (short : windowLength o c < 1440) :
    windowLength o c ≤ windowElapsed o c := by
  obtain h | rfl | h := Nat.lt_trichotomy o c
  · rw [windowLength_of_lt h (by omega), windowElapsed_of_le h.le hc]
  · rw [windowLength_self] at short
    omega
  · rw [windowLength_of_gt h ho, windowElapsed_of_lt h ho]

/-! ## The windows of a grant and its allowance (02 R33 to R38) -/

theorem inDailyWindow_iff (g : Grant) (t : Nat) :
    inDailyWindow g t = true ↔ windowElapsed g.opens (t % 1440) < windowLength g.opens g.closes :=
  decide_eq_true_iff

theorem dailyRemaining_eq (g : Grant) (t : Nat) :
    dailyRemaining g t = windowLength g.opens g.closes - windowElapsed g.opens (t % 1440) := rfl

theorem dailyRemaining_pos {g : Grant} {t : Nat} (h : inDailyWindow g t = true) : 1 ≤ dailyRemaining g t := by
  rw [inDailyWindow_iff] at h
  rw [dailyRemaining_eq]
  omega

theorem dailyRemaining_le (g : Grant) (t : Nat) : dailyRemaining g t ≤ 1440 :=
  (Nat.sub_le _ _).trans (windowLength_le _ _)

theorem inDateWindow_iff (g : Grant) (t : Nat) : inDateWindow g t = true ↔ g.validFrom ≤ t ∧ t < g.validUntil := by
  rw [inDateWindow, Bool.and_eq_true, decide_eq_true_iff, decide_eq_true_iff]

/-- The four tests of a grant (02 R37). -/
theorem applies_iff (part : PartSettings) (zone : Nat) (g : Grant) (t : Nat) :
    applies part zone g t = true ↔
      zoneTest part.groupMode zone g.zoneMask = true ∧ inDateWindow g t = true ∧ onWeekday part.epochWeekday g t = true ∧
        inDailyWindow g t = true := by
  simp only [applies, Bool.and_eq_true, and_assoc]

theorem allowanceOf_eq (g : Grant) (t : Nat) :
    allowanceOf g t = min g.maxStay (min (dailyRemaining g t) (g.validUntil - t)) := rfl

/-- The three minutes of which the allowance is the least are each at least 1 for a grant that applies (02 R38). -/
theorem allowanceOf_pos {g : Grant} {t : Nat} (stay : 1 ≤ g.maxStay) (daily : inDailyWindow g t = true)
    (date : inDateWindow g t = true) : 1 ≤ allowanceOf g t := by
  have remaining : 1 ≤ dailyRemaining g t := dailyRemaining_pos daily
  obtain ⟨-, before⟩ := (inDateWindow_iff g t).mp date
  rw [allowanceOf_eq]
  omega

theorem allowanceOf_le_maxStay (g : Grant) (t : Nat) : allowanceOf g t ≤ g.maxStay := Nat.min_le_left _ _

/-- A stay that begins inside the date window has its deadline there too (02 R39). -/
theorem add_allowanceOf_le {g : Grant} {t : Nat} (date : inDateWindow g t = true) : t + allowanceOf g t ≤ g.validUntil := by
  obtain ⟨-, before⟩ := (inDateWindow_iff g t).mp date
  rw [allowanceOf_eq]
  omega

/-! ## Zones (03 R42, R43) -/

theorem GroupMode.size_pos (groups : GroupMode) : 0 < groups.size := by
  cases groups <;> decide

theorem zoneIndexOf_lt (part : PartSettings) (code : Nat) : zoneIndexOf part code < part.groupMode.size :=
  Nat.mod_lt _ part.groupMode.size_pos

theorem zoneTest_of_lt {groups : GroupMode} {zone : Nat} (h : zone < groups.size) (mask : ZoneMask) :
    zoneTest groups zone mask = mask.getLsbD zone := by
  simp [zoneTest, h]

/-- A mask none of whose counting bits is set opens no zone, whatever stands above them (03 R43). -/
theorem zoneTest_eq_false {groups : GroupMode} {mask : ZoneMask} (h : ∀ b, b < groups.size → mask.getLsbD b = false)
    (zone : Nat) : zoneTest groups zone mask = false := by
  by_cases hz : zone < groups.size
  · rw [zoneTest_of_lt hz, h zone hz]
  · simp [zoneTest, hz]

/-! ## What the execution of a request touches (09 R162) -/

/-- Besides what its rule touches, a request touches the command queue it is taken from and the answer queue. -/
theorem executeRequest_keeps {fs : List Field} {rule : Request → State → Executed}
    (h : ∀ r s, Keeps fs s (rule r s).state) (isRow : Nat → Bool) (s : State) :
    Keeps (.trunk :: .reports :: fs) s (s.executeRequest isRow rule) := by
  obtain same | ⟨r, rest, -, -, -, ended⟩ := executeRequest_cases s isRow rule
  · rw [same]
    exact Keeps.refl _ s
  · have ruled : Keeps (.trunk :: .reports :: fs) s (rule r (s.withTrunk { s.trunk with commands := rest })).state :=
      ((withTrunk_keeps s _).mono (by simp)).trans ((h r _).mono fun f hf => by simp [hf])
    obtain ⟨status, data, -, eq⟩ | ⟨-, eq⟩ := ended
    · rw [eq]
      exact ruled.trans ((answer_keeps _ r status data).mono (by simp))
    · rw [eq]
      exact ruled

theorem setPartRule_keeps (q : Request) (s : State) : Keeps [.settings, .rooms] s (setPartRule q s).state := by
  unfold setPartRule
  split
  · exact Keeps.refl _ s
  · dsimp only
    split
    · exact Keeps.refl _ s
    · exact applyPart_keeps s _

theorem exec_setPart_keeps {s t : State} (h : exec .setPart s = .next t) :
    Keeps [.trunk, .reports, .settings, .rooms] s t := by
  obtain rfl : s.executeNamed nameSetPart setPartRule = t := Host.Outcome.next.inj h
  exact executeRequest_keeps setPartRule_keeps _ s

/-! ## The obligation -/

/-- Settles O58: the equations of daily windows, the bounds of the remaining minutes and of the allowance, the zone test within the
counting bits, and what SET PART leaves unchanged. -/
theorem windowsZonesAndAllowance : Obligations.WindowsZonesAndAllowance := by
  refine ⟨fun o c ho _ hc => ?window, windowLength_self 0, windowLength_of_lt (by decide) le_rfl,
    fun g t _ => ⟨inDailyWindow_iff g t, fun daily => ⟨dailyRemaining_eq g t, dailyRemaining_pos daily, dailyRemaining_le g t⟩⟩,
    fun part zone g t ranged applied => ?allowance, zoneIndexOf_lt,
    fun zone mask => ⟨fun h => zoneTest_of_lt h mask, fun h => zoneTest_of_lt h mask,
      fun h => zoneTest_eq_false (groups := .groups16) h zone⟩,
    fun s t h => ⟨exec_setPart_keeps h .permits (by decide), exec_setPart_keeps h .roster (by decide)⟩⟩
  case window =>
    refine ⟨windowLength_pos o c, windowLength_le o c, fun h _ => windowLength_of_lt h hc, fun h midnight => ?_,
      fun h => windowLength_of_gt h ho, fun h => h ▸ windowLength_self c,
      fun m hm => ⟨windowElapsed_le o m, fun h => windowElapsed_of_le h hm, fun h => windowElapsed_of_lt h ho, fun whole => ?_⟩,
      windowLength_le_windowElapsed_close ho⟩
    · rw [windowLength_of_lt h hc, midnight]
    · rw [whole]
      exact ⟨Nat.lt_succ_of_le (windowElapsed_le o m), next_opening_of_whole_day ho hm⟩
  case allowance =>
    obtain ⟨-, date, -, daily⟩ := (applies_iff part zone g t).mp applied
    obtain ⟨stay, longest⟩ := ranged.maxStay
    exact ⟨allowanceOf_eq g t, allowanceOf_pos stay daily date, (allowanceOf_le_maxStay g t).trans longest,
      add_allowanceOf_le date⟩

end Sys2Proof.Machine

/-! PROOF. What a lock driver's events do to a door (07 R124 to R126, R135 to R137), and how a fault ends a room's party
(05 R98). -/

namespace Sys2Proof.Machine

theorem put_put {α : Type} {n : Nat} (v : Vector α n) (i : Fin n) (x y : α) : put (put v i x) i y = put v i y := by
  simp [put]

/-! ## The end of a program by a fault (07 R131, R136) -/

section
variable (now : Nat) (room : RoomSettings) (d : Door)

/-- LOCK gives every door state the same image, so the end actions leave the outputs off whatever the door was doing. -/
theorem Door.endActions_image :
    (d.endActions now room).image = { unlocked := false, sounder := false, beacon := false, shunt := false } := by
  cases h : d.state <;> simp [Door.endActions, Door.act, h]

@[simp] theorem Door.endActions_program : (d.endActions now room).program = none := rfl

@[simp] theorem Door.endActions_waitTimer : (d.endActions now room).waitTimer = none := rfl

/-- What a fault leaves of a door: the state and the held timer that the end actions gave are replaced. -/
theorem Door.endProgram_faulted (cause : FaultCause) :
    { d.endProgram now room with state := .fault, cause := some cause, heldTimer := none }
      = ({ state := .fault
           image := if d.program = none then d.image
             else { unlocked := false, sounder := false, beacon := false, shunt := false }
           program := none
           waitTimer := if d.program = none then d.waitTimer else none
           heldTimer := none
           cause := some cause } : Door) := by
  cases h : d.program with
  | none => simp [Door.endProgram, h]
  | some p => simp [Door.endProgram, h, Door.endActions_image]

end

/-! ## Breaking a slot (05 R98, R101) -/

section
variable (s : State) (r : RoomId)

/-- What one denied member leaves: its overlay and its VERDICT item. -/
theorem State.denyMembers_cons (size : Nat) (reason : Reason) (m : Member) (ms : List Member) :
    s.denyMembers r size reason (m :: ms) =
      State.denyMembers
        { s with
          rooms := s.roomsShowing r .entry .denied
          reports := s.reports.offerRoutine (.verdict (s.verdictOfMember r m size .deny reason)) }
        r size reason ms := rfl

/-- A second overlay at the same reader at the same moment leaves what the first one left. -/
theorem State.roomsShowing_roomsShowing (q : Reports) :
    ({ s with rooms := s.roomsShowing r .entry .denied, reports := q } : State).roomsShowing r .entry .denied
      = s.roomsShowing r .entry .denied := by
  simp [State.roomsShowing, State.room, put_put]

/-- The members of a party denied one after the other: each verdict is the one of the state before, and the overlay is set
once. -/
theorem State.denyMembers_eq (size : Nat) (reason : Reason) (ms : List Member) :
    s.denyMembers r size reason ms =
      { s with
        rooms := if ms = [] then s.rooms else s.roomsShowing r .entry .denied
        reports := s.reports.offerVerdicts (ms.map fun m => s.verdictOfMember r m size .deny reason) } := by
  induction ms generalizing s with
  | nil => rfl
  | cons m ms ih =>
    rw [State.denyMembers_cons, ih, State.roomsShowing_roomsShowing, ite_self]
    rfl

variable {s r}

theorem State.breakSlot_of_party {y : Party} (h : s.slot r = .party y) (reason : Reason) :
    s.breakSlot r reason = (s.denyMembers r y.members.length reason y.members).setSlot r .empty := by
  simp [State.breakSlot, h]

/-- A lead of either kind is cleared without a verdict. -/
theorem State.breakSlot_of_lead {l : Lead} (h : s.slot r = .lead l) (reason : Reason) :
    s.breakSlot r reason = s.setSlot r .empty := by
  simp [State.breakSlot, h]

theorem State.breakSlot_of_empty (h : s.slot r = .empty) (reason : Reason) : s.breakSlot r reason = s.setSlot r .empty := by
  have same : put s.slots r .empty = s.slots := h ▸ put_look s.slots r
  simp [State.breakSlot, State.setSlot, State.withSlots, h, same]

/-! ## Entering FAULT (07 R136, R138) -/

/-- The room's door in FAULT and DOOR_FAULT raised, before the Party Unit is told. -/
def State.faultRaised (s : State) (r : RoomId) (cause : FaultCause) : State :=
  (s.setDoor r { (s.door r).endProgram s.now (s.roomSettings r) with
    state := .fault, cause := some cause, heldTimer := none }).raiseDoor r (.doorFault cause (s.door r).state)

theorem State.enterFault_eq_breakSlot (s : State) (r : RoomId) (cause : FaultCause) :
    s.enterFault r cause = (s.faultRaised r cause).breakSlot r .doorFault := rfl

theorem State.faultRaised_eq (s : State) (r : RoomId) (cause : FaultCause) :
    s.faultRaised r cause =
      { s with
        doors := put s.doors r
          { state := .fault
            image := if (s.door r).program = none then (s.door r).image
              else { unlocked := false, sounder := false, beacon := false, shunt := false }
            program := none
            waitTimer := if (s.door r).program = none then (s.door r).waitTimer else none
            heldTimer := none
            cause := some cause }
        reports := s.reports.offerAlarm (s.faultAlarm r (s.roomSettings r).lockDriver cause (s.door r).state) } := by
  rw [State.faultRaised, Door.endProgram_faulted]
  rfl

@[simp] theorem State.faultRaised_slot (s : State) (r q : RoomId) (cause : FaultCause) :
    (s.faultRaised r cause).slot q = s.slot q := rfl

/-- The model's entry into FAULT leaves the state that the rules list, whatever the slot holds. -/
theorem State.enterFault_eq (s : State) (r : RoomId) (cause : FaultCause) : s.enterFault r cause = s.doorFaulted r cause := by
  have hslot : (s.faultRaised r cause).slot r = s.slot r := State.faultRaised_slot s r r cause
  rw [State.enterFault_eq_breakSlot]
  cases h : s.slot r with
  | empty =>
    rw [State.breakSlot_of_empty (hslot.trans h), State.faultRaised_eq]
    simp only [State.doorFaulted, h]
    rfl
  | lead l =>
    rw [State.breakSlot_of_lead (hslot.trans h), State.faultRaised_eq]
    simp only [State.doorFaulted, h]
    rfl
  | party y =>
    rw [State.breakSlot_of_party (hslot.trans h), State.denyMembers_eq, State.faultRaised_eq]
    simp only [State.doorFaulted, h]
    rfl

/-! ## The events, one equation for each state they find the door in -/

theorem State.doorOpened_of_secure (h : (s.door r).state = .secure) :
    s.doorOpened r = ((s.setDoor r { s.door r with state := .forced }).raiseDoor r
      (.doorForced (s.roomCount r) (s.door r).program.isSome)).setRollState r .uncertain := by
  simp [State.doorOpened, h]

theorem State.doorOpened_of_released (h : (s.door r).state = .released) :
    s.doorOpened r = s.setDoor r { s.door r with
      state := .opened
      heldTimer := if (s.door r).image.shunt = true then none else some (heldFrom s.now (s.roomSettings r)) } := by
  simp [State.doorOpened, h]

theorem State.doorOpened_of_neither (secure : (s.door r).state ≠ .secure) (released : (s.door r).state ≠ .released) :
    s.doorOpened r = s := by
  unfold State.doorOpened
  dsimp only
  split
  · next found => exact absurd found secure
  · next found => exact absurd found released
  · rfl

theorem State.doorClosed_of_opened (h : (s.door r).state = .opened) :
    s.doorClosed r = s.setDoor r { s.door r with
      state := if (s.door r).image.unlocked = true then .released else .secure, heldTimer := none } := by
  simp [State.doorClosed, h]

theorem State.doorClosed_of_held (h : (s.door r).state = .held) :
    s.doorClosed r = s.setDoor r { s.door r with
      state := if (s.door r).image.unlocked = true then .released else .secure } := by
  simp [State.doorClosed, h]

theorem State.doorClosed_of_forced (h : (s.door r).state = .forced) :
    s.doorClosed r = s.setDoor r { s.door r with state := .secure } := by
  simp [State.doorClosed, h]

/-- CLOSED finds no door to close: it stands closed, or its driver is not trusted (07 R125). -/
theorem State.doorClosed_of_shut
    (h : (s.door r).state = .secure ∨ (s.door r).state = .released ∨ (s.door r).state = .fault ∨
      (s.door r).state = .faultHold) : s.doorClosed r = s := by
  obtain h | h | h | h := h <;> simp [State.doorClosed, h]

/-- A release request leaves the room table, so BUTTON marks the roll state the room had. -/
theorem State.exitButton_eq (s : State) (r : RoomId) :
    s.exitButton r = { s.release r .exit with rooms := put s.rooms r { s.room r with rollState := .uncertain } } := by
  have hrooms : (s.release r .exit).rooms = s.rooms := release_keeps s r .exit .rooms (by decide)
  simp only [State.exitButton, State.setRollState, State.setRoom, State.withRooms, State.room, hrooms]

theorem State.driverFault_of_fault (h : (s.door r).state = .fault) : s.driverFault r = s := if_pos h

theorem State.driverFault_of_not_fault (h : (s.door r).state ≠ .fault) : s.driverFault r = s.doorFaulted r .reported :=
  (if_neg h).trans (State.enterFault_eq s r .reported)

theorem State.faultCleared_of_reported (h : (s.door r).state = .fault) (cause : (s.door r).cause = some .reported) :
    s.faultCleared r = s.setDoor r { s.door r with state := .faultHold } := if_pos ⟨h, cause⟩

theorem State.faultCleared_of_not_reported (h : (s.door r).state ≠ .fault ∨ (s.door r).cause ≠ some .reported) :
    s.faultCleared r = s := if_neg (not_and_or.mpr h)

end

/-- Settles O51: each event by the equation for the state it finds the door in. -/
theorem driverEventsMoveTheDoor : Obligations.DriverEventsMoveTheDoor := by
  intro r s
  exact ⟨State.doorClosed_of_opened, State.doorClosed_of_held, State.doorClosed_of_forced, State.doorClosed_of_shut,
    State.doorOpened_of_released, State.doorOpened_of_secure, State.doorOpened_of_neither, State.exitButton_eq s r,
    State.driverFault_of_fault, State.driverFault_of_not_fault, State.faultCleared_of_reported,
    State.faultCleared_of_not_reported⟩

end Sys2Proof.Machine

/-! PROOF. The alarm-overflow flag (10 R172): what an alarm offered to the queue does, and that a flag once set stays set through
every operation but READ STATUS and a reset. -/

namespace Sys2Proof.Machine

set_option Elab.async false

/-! ## An alarm offered to the queue (10 R171, R172) -/

section
variable {q : Reports} {a b : Alarm} {before after : List Alarm}

theorem Reports.any_key_eq_false (new : ∀ b ∈ q.alarms, b.key ≠ a.key) :
    q.alarms.any (fun b => b.key == a.key) = false := by
  simpa [List.any_eq_false] using new

theorem Reports.offerAlarm_of_full (full : 16 ≤ q.alarms.length) (new : ∀ b ∈ q.alarms, b.key ≠ a.key) :
    q.offerAlarm a = { q with overflow := true } := by
  simp [Reports.offerAlarm, any_key_eq_false new, Config.alarmPlaces, full.not_gt]

theorem Reports.offerAlarm_of_place (place : q.alarms.length < 16) (new : ∀ b ∈ q.alarms, b.key ≠ a.key) :
    q.offerAlarm a = { q with alarms := q.alarms ++ [a] } := by
  simp [Reports.offerAlarm, any_key_eq_false new, Config.alarmPlaces, place]

/-- Alarms of other keys are left as they are. -/
theorem map_absorb_of_other_keys {l : List Alarm} (other : ∀ x ∈ l, x.key ≠ a.key) :
    (l.map fun x => if x.key == a.key then x.absorb a else x) = l :=
  (List.map_congr_left fun x hx => by simp [other x hx]).trans (List.map_id' l)

theorem Reports.offerAlarm_of_waiting (parts : q.alarms = before ++ b :: after) (same : b.key = a.key)
    (other : ∀ x ∈ before ++ after, x.key ≠ a.key) :
    q.offerAlarm a = { q with alarms := before ++ b.absorb a :: after } := by
  have waits : q.alarms.any (fun b => b.key == a.key) = true := by simp [parts, same]
  have left := map_absorb_of_other_keys fun x hx => other x (List.mem_append_left after hx)
  have right := map_absorb_of_other_keys fun x hx => other x (List.mem_append_right before hx)
  rw [Reports.offerAlarm, if_pos waits]
  simp only [parts, List.map_append, List.map_cons, left, right, same, beq_self_eq_true, if_true]

/-- A discard sets the flag, and no offered alarm clears it. -/
theorem Reports.offerAlarm_overflow (h : q.overflow = true) : (q.offerAlarm a).overflow = true := by
  obtain ⟨-, eq⟩ | ⟨-, -, eq⟩ | ⟨-, -, eq⟩ := q.offerAlarm_cases a
  · rw [eq]; exact h
  · rw [eq]; exact h
  · rw [eq]

theorem Reports.offerRoutine_overflow (i : RoutineItem) : (q.offerRoutine i).overflow = q.overflow := by
  obtain ⟨-, eq⟩ | ⟨-, eq⟩ := q.offerRoutine_cases i
  · rw [eq]
  · rw [eq]

/-- The arbiter takes an item off a queue and leaves the flag (10 R169). -/
theorem Reports.choose_overflow (hold : Bool) : (q.choose hold).2.overflow = q.overflow := by
  unfold Reports.choose
  split
  · rfl
  · split
    · rfl
    · split
      · rfl
      · split
        · rfl
        · rfl

end

/-! ## The flag set

An operation that leaves the reports alone keeps the flag by its lemma in Laws/Keeps (`AlarmLost.through`); one that reports
keeps it by a lemma here, so that a proof is the chain of the operations it passes through. -/

/-- The alarm-overflow flag is set: an alarm has been discarded and READ STATUS has not reported it yet (10 R172). -/
def AlarmLost (s : State) : Prop := s.reports.overflow = true

namespace AlarmLost

variable {s t : State} {r : RoomId} {p : Presentation} {v : Verdict} {c : Nat} {a : StationId}

theorem through {fs : List Field} (h : AlarmLost s) (k : Keeps fs s t) (quiet : Field.reports ∉ fs := by decide) : AlarmLost t :=
  (congrArg Reports.overflow (k .reports quiet)).trans h

theorem ite {u : Prop} [Decidable u] (h : AlarmLost s) (k : AlarmLost t) : AlarmLost (if u then s else t) := by
  split
  · exact h
  · exact k

theorem foldl {α : Type} {op : State → α → State} (one : ∀ s x, AlarmLost s → AlarmLost (op s x)) (l : List α)
    (h : AlarmLost s) : AlarmLost (l.foldl op s) := by
  induction l generalizing s with
  | nil => exact h
  | cons x l ih => exact ih (one s x h)

theorem raise {room : Option RoomId} {credential station : Option Nat} {detail : AlarmDetail} (h : AlarmLost s) :
    AlarmLost (s.raise room credential station detail) := Reports.offerAlarm_overflow h

theorem offerRoutine {i : RoutineItem} (h : AlarmLost s) : AlarmLost (s.offerRoutine i) :=
  (Reports.offerRoutine_overflow i).trans h

theorem answer {q : Request} {status : Status} {data : AnswerData} (h : AlarmLost s) : AlarmLost (s.answer q status data) := h

theorem issue (h : AlarmLost s) : AlarmLost (s.issue v) := (h.through (showOutcome_keeps s _ _)).offerRoutine

theorem denyMembers {size : Nat} {reason : Reason} {ms : List Member} (h : AlarmLost s) :
    AlarmLost (s.denyMembers r size reason ms) := foldl (fun _ _ h => h.issue) ms h

theorem breakSlot {reason : Reason} (h : AlarmLost s) : AlarmLost (s.breakSlot r reason) := by
  unfold State.breakSlot
  split
  · exact h.denyMembers.through (setSlot_keeps _ _ _)
  · exact h.through (setSlot_keeps _ _ _)
  · exact h

/-! ### Door Control (07) -/

theorem enterFault {cause : FaultCause} (h : AlarmLost s) : AlarmLost (s.enterFault r cause) :=
  (h.through (setDoor_keeps s _ _)).raise.breakSlot

theorem driverOffline (h : AlarmLost s) : AlarmLost (s.driverOffline r) := by
  unfold State.driverOffline
  split
  · exact h
  · exact h
  · exact h.enterFault

theorem doorOpened (h : AlarmLost s) : AlarmLost (s.doorOpened r) := by
  unfold State.doorOpened
  dsimp only
  split
  · exact (h.through (setDoor_keeps s _ _)).raise.through (setRollState_keeps _ _ _)
  · exact h.through (setDoor_keeps s _ _)
  · exact h

theorem driverEvent {e : DriverEvent} (h : AlarmLost s) : AlarmLost (s.driverEvent r e) := by
  cases e with
  | opened => exact h.doorOpened
  | closed => exact h.through (doorClosed_keeps s r)
  | button => exact h.through (exitButton_keeps s r)
  | fault => exact ite h h.enterFault
  | faultCleared => exact h.through (faultCleared_keeps s r)

theorem driverEvents {es : List DriverEvent} (h : AlarmLost s) : AlarmLost (s.driverEvents r es) :=
  foldl (fun _ _ h => h.driverEvent) es h

theorem freshStart (h : AlarmLost s) : AlarmLost (s.freshStart r) :=
  ite (h.through (setDoor_keeps s _ _)).raise (h.through (setDoor_keeps s _ _))

/-! ### The Occupancy Roll (06) -/

section
variable {d k : Nat} {cause : DepartureCause} {q : Presence} {minute : Nat}

theorem relink (h : AlarmLost s) : AlarmLost (s.relink r d cause c) := by
  unfold State.relink
  split
  · exact h.through (changeRecord_keeps s _ _)
  · exact (h.through (changeRecord_keeps s _ _)).raise

theorem staffLeft (h : AlarmLost s) : AlarmLost (s.staffLeft r c cause) :=
  (foldl (fun _ _ h => h.relink) _ h).through (endEnteredLead_keeps _ _ _)

theorem partnerLeft (h : AlarmLost s) : AlarmLost (s.partnerLeft r d k cause) := by
  unfold State.partnerLeft
  split
  · exact ite (h.through (changeRecord_keeps s _ _)).raise h
  · exact h

theorem afterRemoval (h : AlarmLost s) : AlarmLost (s.afterRemoval cause q) := by
  unfold State.afterRemoval
  split
  · exact h.staffLeft
  · split
    · exact h.partnerLeft
    · exact h

theorem depart {gone : Presence → Bool} (h : AlarmLost s) : AlarmLost (s.depart r gone cause) :=
  (foldl (fun _ _ h => h.afterRemoval) _ (h.through (withRoll_keeps s _))).through (evaluateLone_keeps _ _)

theorem stayCheck (h : AlarmLost s) : AlarmLost (s.stayCheck q minute) := by
  unfold State.stayCheck
  split
  · exact h
  · exact ite (h.through (changeRecord_keeps s _ _)).raise h

theorem checkInCheck (h : AlarmLost s) : AlarmLost (s.checkInCheck q minute) := by
  unfold State.checkInCheck
  split
  · exact h
  · split
    · have raised (f : ContractorPart → ContractorPart) (detail : AlarmDetail) :
          AlarmLost ((s.changeRecord q.credential f).raiseFor q detail) := (h.through (changeRecord_keeps s _ _)).raise
      exact ite (ite (raised _ _) (raised _ _)) h
    · exact h

theorem rollMinute (h : AlarmLost s) : AlarmLost (s.rollMinute minute) :=
  foldl (fun _ _ h => h.stayCheck.checkInCheck) s.roll h

theorem withdrawInside {x : PermitState} (h : AlarmLost s) : AlarmLost (s.withdrawInside c x) := by
  unfold State.withdrawInside
  split
  · exact h
  · split
    · exact h
    · exact (h.through (changeRecord_keeps s _ _)).raise

end

/-! ### Decisions (04, 05) -/

/-- A passback removal is raised and then departs. -/
theorem passback (h : AlarmLost s) (passed : s.passback r p = some t) : AlarmLost t := by
  unfold State.passback at passed
  split at passed
  · cases passed
    exact h
  · split at passed
    · cases passed
    · cases passed
      exact h.raise.depart

section
variable {m : Permit} {g : Chosen} {u : Staff} {y : Party} {l : Lead} {b : Bool}

theorem completionVerdicts {size released staff : Nat} {places : Places} {i : Nat} {ms : List Member} (h : AlarmLost s) :
    AlarmLost (s.completionVerdicts r size released places staff i ms) := by
  induction ms generalizing s i with
  | nil => exact h
  | cons m ms ih => exact ih h.issue

theorem completeByStaff (h : AlarmLost s) : AlarmLost (s.completeByStaff r p u y b) := by
  unfold State.completeByStaff
  dsimp only
  have released {u : State} {c : Prop} [Decidable c] (h : AlarmLost u) : AlarmLost (if c then u.release r .entry else u) :=
    ite (h.through (release_keeps u r .entry)) h
  have told {u : State} {c : Prop} [Decidable c] {v : Verdict} (h : AlarmLost u) : AlarmLost (if c then u.issue v else u) :=
    ite h.issue h
  exact (told (released (h |>.through (addRecords_keeps _ _ _) |>.through (noticeMembers_keeps _ _)
    |>.through (openLead_keeps _ _ _ _ _) |>.through (clearWaitingElsewhere_keeps _ _ _)))).completionVerdicts

theorem staffCompletion (h : AlarmLost s) : AlarmLost (s.staffCompletion r p u y) := by
  unfold State.staffCompletion
  dsimp only
  split
  · exact (h.through (setSlot_keeps s _ _)).issue.denyMembers
  · exact h.completeByStaff

theorem grantStaff (h : AlarmLost s) : AlarmLost (s.grantStaff r p b) := by
  have added := h.through (addRecords_keeps s r [s.staffPresence r p.credential])
  exact ite (added.through (openLead_keeps _ _ _ _ _)) added |>.through (clearWaitingElsewhere_keeps _ _ _)
    |>.through (release_keeps _ _ _) |>.issue

theorem admitStaff (h : AlarmLost s) : AlarmLost (s.admitStaff r p b) := by
  unfold State.admitStaff
  split
  · exact h.issue
  · exact h.grantStaff

theorem waitAsLead (h : AlarmLost s) : AlarmLost (s.waitAsLead r p) :=
  ((h.through (openLead_keeps s _ _ _ _)).through (clearWaitingElsewhere_keeps _ _ _)).issue

theorem decideStaffSlot (h : AlarmLost s) : AlarmLost (s.decideStaffSlot r p u) := by
  unfold State.decideStaffSlot
  split
  · exact h.staffCompletion
  · exact ite (ite h.admitStaff h.issue) (ite h.admitStaff h.waitAsLead)
  · exact ite h.admitStaff h.waitAsLead

theorem decideStaff (h : AlarmLost s) : AlarmLost (s.decideStaff r p u) := by
  unfold State.decideStaff
  refine ite h.issue (ite h.issue (ite h.decideStaffSlot ?_))
  split
  · exact h.issue
  · next passed => exact (h.passback passed).decideStaffSlot

theorem grantContractor {e : Option Nat} (h : AlarmLost s) : AlarmLost (s.grantContractor r p m g e) :=
  h |>.through (addRecords_keeps _ _ _) |>.through (grantNotice_keeps _ _ _) |>.through (leaveOtherParty_keeps _ _ _)
    |>.through (release_keeps _ _ _) |>.issue

theorem admitContractor {e : Option Nat} (h : AlarmLost s) : AlarmLost (s.admitContractor r p m g e) := by
  unfold State.admitContractor
  split
  · exact h.issue
  · exact h.grantContractor

theorem completePair {waiting : Member} {size : Nat} (h : AlarmLost s) :
    AlarmLost (s.completePair r p m g waiting size) := by
  unfold State.completePair
  split
  · exact (h.through (setSlot_keeps s _ _)).issue.issue
  · exact h |>.through (addRecords_keeps _ _ _) |>.through (grantNotice_keeps _ _ _) |>.through (grantNotice_keeps _ _ _)
      |>.through (setSlot_keeps _ _ _) |>.through (leaveOtherParty_keeps _ _ _) |>.through (release_keeps _ _ _)
      |>.issue |>.issue

theorem joinPair (h : AlarmLost s) : AlarmLost (s.joinPair r p m g y) := by
  unfold State.joinPair
  split
  · exact h.completePair
  · exact h

/-- A contractor who starts or joins a party: the slot, the party elsewhere, and the PENDING verdict. -/
theorem pendingAt {x : Slot} {size : Nat} (h : AlarmLost s) :
    AlarmLost (((s.setSlot r x).leaveOtherParty r p.credential).issuePending r p m g size) :=
  ((h.through (setSlot_keeps s _ _)).through (leaveOtherParty_keeps _ _ _)).issue

theorem joinParty (h : AlarmLost s) : AlarmLost (s.joinParty r p m g y) := by
  unfold State.joinParty
  split
  · exact ite h.pendingAt h.issue
  · exact ite h.joinPair h.issue

theorem partyHandling (h : AlarmLost s) : AlarmLost (s.partyHandling r p m g) := by
  unfold State.partyHandling
  split
  · exact h.joinParty
  · exact h.pendingAt

theorem completeLead (h : AlarmLost s) : AlarmLost (s.completeLead r p m g l) := by
  unfold State.completeLead
  split
  · exact h.issue
  · exact h |>.through (addRecords_keeps _ _ _) |>.through (grantNotice_keeps _ _ _)
      |>.through (leaveOtherParty_keeps _ _ _) |>.through (openLead_keeps _ _ _ _ _)
      |>.through (clearWaitingElsewhere_keeps _ _ _) |>.through (release_keeps _ _ _) |>.issue |>.issue

theorem meetLead (h : AlarmLost s) : AlarmLost (s.meetLead r p m g l) := by
  unfold State.meetLead
  split
  · exact h.partyHandling
  · refine ite h.partyHandling ?_
    split
    · exact h.completeLead
    · exact ite h.admitContractor h.partyHandling

theorem escortHandling (h : AlarmLost s) : AlarmLost (s.escortHandling r p m g) := by
  unfold State.escortHandling
  split
  · split
    · exact ite h.joinPair h.admitContractor
    · exact h.admitContractor
  · split
    · exact h.meetLead
    · exact h.partyHandling

theorem decideContractor (h : AlarmLost s) : AlarmLost (s.decideContractor r p m) := by
  unfold State.decideContractor
  split
  · exact h.issue
  · split
    · exact h.issue
    · split
      · exact h.issue.raise
      · split
        · split
          · exact h.issue
          · exact h.issue
        · split
          · exact h.issue
          · next passed => exact (h.passback passed).escortHandling

theorem decideEntry (h : AlarmLost s) : AlarmLost (s.decideEntry r p) := by
  unfold State.decideEntry
  refine ite h.issue (ite h.issue ?_)
  split
  · exact h.decideStaff
  · split
    · exact h.decideContractor
    · exact h.issue

theorem takeOffRoll (h : AlarmLost s) : AlarmLost (s.takeOffRoll r c).1 := by
  unfold State.takeOffRoll
  split
  · exact h
  · split
    · exact h.depart
    · exact h.depart.through (setRollState_keeps _ _ _)

theorem decideExit (h : AlarmLost s) : AlarmLost (s.decideExit r p) :=
  (h.takeOffRoll.through (release_keeps _ _ _)).issue

theorem decideCheckIn (h : AlarmLost s) : AlarmLost (s.decideCheckIn r p) :=
  ite (h.through (changeRecord_keeps s _ _)).issue h.issue

theorem unassignedReader (h : AlarmLost s) : AlarmLost (s.unassignedReader p) := by
  unfold State.unassignedReader
  split
  · exact h.offerRoutine
  · exact h

theorem screen (h : AlarmLost s) : AlarmLost (s.screen p) := by
  unfold State.screen
  split
  · exact ite h.decideEntry h.issue
  · refine ite ?_ (h.through (release_keeps s _ _)).issue
    split
    · exact h.decideExit
    · exact h.decideCheckIn
  · exact ite h.unassignedReader h.issue

theorem present (h : AlarmLost s) : AlarmLost (s.present p) := ite h (h.through (withLastSeen_keeps s _)).screen

end

/-! ### The Field Port (08) -/

section
variable {cause : CarryCause}

theorem failRiding (h : AlarmLost s) : AlarmLost (s.failRiding cause) := by
  unfold State.failRiding
  split
  · exact (h.through (deliverCarry_keeps s)).offerRoutine
  · exact h

theorem failStation (h : AlarmLost s) : AlarmLost (s.failStation a) :=
  foldl (fun _ _ h => h.offerRoutine) _ (h.through (withField_keeps s _))

theorem tellDoor {notice : State → RoomId → State} (h : AlarmLost s) (told : ∀ r, AlarmLost (notice s r)) :
    AlarmLost (s.tellDoor a notice) := by
  unfold State.tellDoor
  split
  · exact told _
  · exact h

theorem stationLost {x : OnlineState} (h : AlarmLost s) : AlarmLost (s.stationLost a x cause) :=
  h.raise.tellDoor fun _ => h.raise.driverOffline

theorem countMiss (h : AlarmLost s) : AlarmLost (s.countMiss a cause) :=
  ite (h.through (setStation_keeps s _ _)) (ite (h.through (setStation_keeps s _ _)).stationLost h)

theorem visitFailed (h : AlarmLost s) : AlarmLost (s.visitFailed a cause) :=
  h.countMiss.failRiding.through (endVisit_keeps _)

theorem stationAnswered (h : AlarmLost s) : AlarmLost (s.stationAnswered a) := by
  have online := h.through (setStation_keeps s a { online := .online, missed := 0 })
  unfold State.stationAnswered
  dsimp only
  split
  · exact online.raise.tellDoor fun r => online.raise.through (driverOnline_keeps _ r)
  · exact online

theorem takeBody {body : ReplyBody} (h : AlarmLost s) : AlarmLost (s.takeBody a body) := by
  cases body with
  | nothing => exact h
  | presentation => exact h.present
  | events => exact h.tellDoor fun _ => h.driverEvents

theorem takeCarryUp {payload : Option (List Byte)} (h : AlarmLost s) : AlarmLost (s.takeCarryUp a payload) := by
  cases payload with
  | none => exact h
  | some => exact h.offerRoutine

theorem replyTaken {reply : FieldReply} (h : AlarmLost s) : AlarmLost (s.replyTaken a reply) :=
  (h.stationAnswered.through (deliverCarry_keeps _)).takeBody.takeCarryUp.through (endVisit_keeps _)

theorem replyMissed {visit : Visit} (h : AlarmLost s) : AlarmLost (s.replyMissed visit) :=
  (h.through (advance_keeps s _)).visitFailed

theorem frameEnded {visit : Visit} {moment : Nat} {j : Judgement} (h : AlarmLost s) :
    AlarmLost (s.frameEnded visit moment j) := by
  have ended := h.through (advance_keeps s moment)
  cases j with
  | unfinished => exact h
  | ignored => exact ite ended.visitFailed ended
  | bad => exact ended.visitFailed
  | good => exact ended.replyTaken

theorem disableStation (h : AlarmLost s) : AlarmLost (s.disableStation a) := by
  unfold State.disableStation
  dsimp only
  split
  · exact ite (h.failStation.through (endVisit_keeps _)) h.failStation
  · exact ite (h.failStation.through (chooseStation_keeps _)) h.failStation

end

/-! ### The tables and the rooms (01, 03) -/

section
variable {old new : RoomSettings}

theorem withdrawAt {reason : Reason} (h : AlarmLost s) : AlarmLost (s.withdrawAt r c reason) := by
  unfold State.withdrawAt
  split
  · split
    · exact (h.through (setSlot_keeps s _ _)).issue
    · exact h
  · exact h

theorem withdraw {x : PermitState} (h : AlarmLost s) : AlarmLost (s.withdraw c x) :=
  (foldl (fun _ _ h => h.withdrawAt) allRooms h).withdrawInside

theorem takeIdentity (h : AlarmLost s) : AlarmLost (s.takeIdentity r old new) :=
  ite (ite (h.through (setRoom_keeps s _ _)).freshStart (ite h.freshStart h))
    (ite ((h.through (setRoom_keeps s _ _)).through (closeDown_keeps _ r)) h)

theorem applyRoom (h : AlarmLost s) : AlarmLost (s.applyRoom r new) :=
  (h.through (storeRoom_keeps s r new)).takeIdentity.through (takeInterval_keeps _ _ _ _)

theorem lockSlot (h : AlarmLost s) : AlarmLost (s.lockSlot r) := by
  unfold State.lockSlot
  split
  · exact (foldl (fun _ _ h => h.offerRoutine) _ h).through (setSlot_keeps _ _ _)
  · exact h.through (setSlot_keeps s _ _)
  · exact h

theorem holdSlot (h : AlarmLost s) : AlarmLost (s.holdSlot r) := by
  unfold State.holdSlot
  split
  · exact h.breakSlot
  · exact h

theorem changeMode {x : RoomMode} (h : AlarmLost s) : AlarmLost (s.changeMode r x) := by
  have changed := h.through (setRoom_keeps s r { s.room r with mode := x })
  cases x with
  | normal => exact changed
  | locked => exact (changed.lockSlot.through (cancelEntry_keeps _ r)).through (setRoom_keeps _ _ _)
  | contractorHold => exact ite changed.holdSlot changed

theorem reconcile {named : List Nat} (h : AlarmLost s) : AlarmLost (s.reconcile r named) :=
  h.depart.through (setRollState_keeps _ _ _)

end

/-! ### The Trunk Port and the Estate Clock (02, 09) -/

theorem restoreLink (h : AlarmLost s) : AlarmLost s.restoreLink := by
  unfold State.restoreLink
  split
  · exact h
  · exact (h.through (withTrunk_keeps s _)).raise

/-- A reply delivers an alarm and reports the flag in its header, and the flag stays. -/
theorem reply {silent hold : Bool} (h : AlarmLost s) : AlarmLost (s.reply silent hold) :=
  (Reports.choose_overflow hold).trans h

theorem staleness (h : AlarmLost s) : AlarmLost s.staleness :=
  ite (h.through (withClock_keeps s _)).raise (h.through (withClock_keeps s _))

theorem minuteEvent {b : Bool} (h : AlarmLost s) : AlarmLost (s.minuteEvent b) :=
  ite h.staleness.rollMinute h.rollMinute.staleness

end AlarmLost

/-! ## Rules that leave the reports alone: every branch of the rule, refused or carried out -/

section
variable (q : Request) (s : State)

theorem storePermit_reports (kind : LoadKind) (record : Permit) : (s.storePermit kind record).state.reports = s.reports := by
  fun_cases State.storePermit <;> rfl

theorem loadPermitRule_reports : (loadPermitRule q s).state.reports = s.reports := by
  fun_cases loadPermitRule
  case case3 | case4 => exact storePermit_reports s _ _
  all_goals rfl

theorem dropPermitRule_reports : (dropPermitRule q s).state.reports = s.reports := by
  fun_cases dropPermitRule <;> rfl

theorem resumePermitRule_reports : (resumePermitRule q s).state.reports = s.reports := by
  fun_cases resumePermitRule <;> rfl

theorem readPermitRule_reports : (readPermitRule q s).state.reports = s.reports := by
  fun_cases readPermitRule <;> rfl

theorem purgePermitsRule_reports : (purgePermitsRule q s).state.reports = s.reports := by
  fun_cases purgePermitsRule <;> rfl

theorem loadEscortRule_reports : (loadEscortRule q s).state.reports = s.reports := by
  fun_cases loadEscortRule <;> rfl

theorem dropEscortRule_reports : (dropEscortRule q s).state.reports = s.reports := by
  fun_cases dropEscortRule <;> rfl

theorem readEscortRule_reports : (readEscortRule q s).state.reports = s.reports := by
  fun_cases readEscortRule <;> rfl

theorem clearTablesRule_reports : (clearTablesRule q s).state.reports = s.reports := by
  fun_cases clearTablesRule <;> rfl

theorem readRoomRule_reports : (readRoomRule q s).state.reports = s.reports := by
  fun_cases readRoomRule <;> rfl

theorem setProgramRule_reports : (setProgramRule q s).state.reports = s.reports := by
  fun_cases setProgramRule <;> rfl

theorem cancelReleaseRule_reports : (cancelReleaseRule q s).state.reports = s.reports := by
  fun_cases cancelReleaseRule <;> rfl

theorem resumeRoomRule_reports : (resumeRoomRule q s).state.reports = s.reports := by
  fun_cases resumeRoomRule <;> rfl

theorem remoteReleaseRule_reports : (remoteReleaseRule q s).state.reports = s.reports := by
  fun_cases remoteReleaseRule
  case case4 => exact release_keeps s _ _ .reports (by decide)
  all_goals rfl

theorem carryRule_reports : (carryRule q s).state.reports = s.reports := by
  fun_cases carryRule <;> rfl

theorem saveSettingsRule_reports (answers : Bool) : (saveSettingsRule answers q s).state.reports = s.reports := by
  fun_cases saveSettingsRule <;> rfl

theorem restartRule_reports : (restartRule q s).state.reports = s.reports := by
  fun_cases restartRule <;> rfl

theorem assignAddressRule_reports : (assignAddressRule q s).state.reports = s.reports := by
  fun_cases assignAddressRule <;> rfl

end

/-! ## Requests (09 R162) -/

namespace AlarmLost

variable {s t u : State} {q : Request}

theorem of_reports (h : AlarmLost s) (same : t.reports = s.reports) : AlarmLost t := (congrArg Reports.overflow same).trans h

theorem answered {status : Status} {data : AnswerData} (h : AlarmLost s) : AlarmLost (answered s status data).state := h

theorem suspendPermitRule (h : AlarmLost s) : AlarmLost (suspendPermitRule q s).state := by
  fun_cases Machine.suspendPermitRule
  case case3 => exact answered (h.through (setPermitState_keeps s _ _)).withdraw
  all_goals exact h

theorem revokePermitRule (h : AlarmLost s) : AlarmLost (revokePermitRule q s).state := by
  fun_cases Machine.revokePermitRule
  case case4 => exact answered (h.through (setPermitState_keeps s _ _)).withdraw
  all_goals exact h

theorem setRoomRule (h : AlarmLost s) : AlarmLost (setRoomRule q s).state := by
  fun_cases Machine.setRoomRule
  case case4 => exact answered h.applyRoom
  all_goals exact h

theorem setRoomModeRule (h : AlarmLost s) : AlarmLost (setRoomModeRule q s).state := by
  fun_cases Machine.setRoomModeRule
  case case4 => exact answered h.changeMode
  all_goals exact h

theorem reconcileRoomRule (h : AlarmLost s) : AlarmLost (reconcileRoomRule q s).state := by
  fun_cases Machine.reconcileRoomRule
  case case3 => exact answered h.reconcile
  all_goals exact h

theorem setStationRule (h : AlarmLost s) : AlarmLost (setStationRule q s).state := by
  fun_cases Machine.setStationRule
  case case3 =>
    have written (a : StationId) (x : StationSettings) (y : Option LineSpeed) : AlarmLost (s.writeStation a x y) :=
      h.through (writeStation_keeps s a x y)
    exact answered (ite ((written _ _ _).through (enableStation_keeps _)) (written _ _ _).disableStation)
  all_goals exact h

/-- A request keeps the flag where its rule does: the queue it is taken from and its answer leave the flag alone. -/
theorem executeRequest {isRow : Nat → Bool} {rule : Request → State → Executed} (h : AlarmLost s)
    (ruled : ∀ q {s}, AlarmLost s → AlarmLost (rule q s).state) : AlarmLost (s.executeRequest isRow rule) := by
  obtain same | ⟨q, rest, -, -, -, ended⟩ := executeRequest_cases s isRow rule
  · rw [same]
    exact h
  · have executed := ruled q (h.through (withTrunk_keeps s { s.trunk with commands := rest }))
    obtain ⟨_, _, -, eq⟩ | ⟨-, eq⟩ := ended
    · rw [eq]
      exact executed.answer
    · rw [eq]
      exact executed

theorem executeQuiet {isRow : Nat → Bool} {rule : Request → State → Executed} (h : AlarmLost s)
    (quiet : ∀ q s, (rule q s).state.reports = s.reports) : AlarmLost (s.executeRequest isRow rule) :=
  h.executeRequest fun q _ h => h.of_reports (quiet q _)

/-! ## The other commands -/

theorem next (h : AlarmLost u) (run : (Host.Outcome.next u : Host.Outcome State Fault Refusal) = .next t) : AlarmLost t :=
  Host.Outcome.next.inj run ▸ h

section
variable {moment : Nat} {bytes : List Byte} {r : RoomId}

theorem selfTestEnd {failing : List Nat} (h : AlarmLost s) (run : execSelfTestEnd moment failing s = .next t) : AlarmLost t := by
  refine next ?_ run
  split <;> exact h

theorem timeFrame (h : AlarmLost s) (run : execTimeFrame moment bytes s = .next t) : AlarmLost t := by
  refine next ?_ run
  split
  · split <;> exact h
  · exact h

theorem commandFrame (h : AlarmLost s) (run : execCommandFrame moment bytes s = .next t) : AlarmLost t := by
  refine next ?_ run
  split
  · exact h |>.through (advance_keeps s _) |>.through (restartSilence_keeps _) |>.through (offerCommand_keeps _ _)
  · exact h

theorem poll (h : AlarmLost s) (run : execPoll moment bytes s = .next t) : AlarmLost t := by
  refine next ?_ run
  split
  · exact h |>.through (advance_keeps s _) |>.through (restartSilence_keeps _) |>.restoreLink |>.reply
  · exact h

theorem silenceTimerExpiry (h : AlarmLost s) (run : execSilenceTimerExpiry s = .next t) : AlarmLost t := by
  refine next (ite ?_ h) run
  split <;> exact h

theorem saveWriteEnd {outcome : WriteOutcome} (h : AlarmLost s) (run : execSaveWriteEnd moment outcome s = .next t) :
    AlarmLost t := by
  refine next (ite ?_ h) run
  split <;> exact h

theorem secondTick {staleFirst : Bool} (h : AlarmLost s) (run : execSecondTick staleFirst s = .next t) : AlarmLost t := by
  have counted (x : Clock) := (h.through (advance_keeps s s.clock.nextCount)).through (withClock_keeps _ x)
  exact next (ite (ite (counted _).minuteEvent (counted _)) h) run

theorem visitSend (h : AlarmLost s) (run : execVisitSend moment s = .next t) : AlarmLost t := by
  refine next (ite ?_ h) run
  split <;> exact h

theorem visitTimeout (h : AlarmLost s) (run : execVisitTimeout s = .next t) : AlarmLost t := by
  refine next (ite ?_ h) run
  split
  · exact h.replyMissed
  · exact h

theorem fieldGapAbandon (h : AlarmLost s) (run : execFieldGapAbandon moment bytes s = .next t) : AlarmLost t := by
  refine next (ite ?_ h) run
  split
  · exact (h.through (advance_keeps s moment)).visitFailed
  · exact h

theorem fieldFrame {began : Nat} (h : AlarmLost s) (run : execFieldFrame moment bytes began s = .next t) : AlarmLost t := by
  refine next (ite ?_ h) run
  split
  · exact h
  · exact ite h.frameEnded h.replyMissed

theorem heldTimerExpiry (h : AlarmLost s) (run : execHeldTimerExpiry r s = .next t) : AlarmLost t := by
  refine next (ite ?_ h) run
  split
  · exact h |>.through (advance_keeps s _) |>.through (setDoor_keeps _ _ _) |>.raise
  · exact h

theorem waitExpiry (h : AlarmLost s) (run : execWaitExpiry r s = .next t) : AlarmLost t := by
  refine next (ite ?_ h) run
  split <;> exact h

theorem partyWindowExpiry (h : AlarmLost s) (run : execPartyWindowExpiry r s = .next t) : AlarmLost t := by
  refine next (ite ?_ h) run
  split
  · exact (h.through (advance_keeps s _)).breakSlot
  · exact h

theorem leadWindowExpiry (h : AlarmLost s) (run : execLeadWindowExpiry r s = .next t) : AlarmLost t := by
  refine next (ite ?_ h) run
  split
  · next l _ =>
    have ended := (h.through (advance_keeps s l.window.ends)).through (setSlot_keeps _ r .empty)
    dsimp only
    split
    · exact ended
    · exact ended.issue
  · exact h

theorem overlayExpiry {d : Direction} (h : AlarmLost s) (run : execOverlayExpiry r d s = .next t) : AlarmLost t := by
  refine next (ite ?_ h) run
  cases d with
  | entry => dsimp only; split <;> exact h
  | exit => dsimp only; split <;> exact h

theorem replySent (h : AlarmLost s) (run : execReplySent moment s = .next t) : AlarmLost t := by
  refine next (ite ?_ h) run
  split
  · exact ite h h
  · exact h

theorem powerLost {cut : WriteCut} (h : AlarmLost s) (run : execPowerLost cut s = .next t) : AlarmLost t := by
  refine next ?_ run
  dsimp only
  split <;> exact h

end

/-! ## Every command but READ STATUS and the resets -/

theorem exec {i : Instr} (h : AlarmLost s) (notRead : i ≠ .readStatus) (notRestart : i ≠ .restartReset)
    (notPowerOn : ∀ cut, i ≠ .powerOnReset cut) (notLoad : ∀ moment answers, i ≠ .settingsLoadEnd moment answers)
    (run : exec i s = .next t) : AlarmLost t := by
  cases i with
  | powerOnReset cut => exact absurd rfl (notPowerOn cut)
  | selfTestEnd => exact h.selfTestEnd run
  | settingsLoadEnd moment answers => exact absurd rfl (notLoad moment answers)
  | restartReset => exact absurd rfl notRestart
  | trunkGapAbandon => exact h.next run
  | timeFrame => exact h.timeFrame run
  | commandFrame => exact h.commandFrame run
  | poll => exact h.poll run
  | silenceTimerExpiry => exact h.silenceTimerExpiry run
  | unknownRequest => exact (h.executeRequest fun _ _ h => h).next run
  | loadPermit => exact (h.executeQuiet loadPermitRule_reports).next run
  | dropPermit => exact (h.executeQuiet dropPermitRule_reports).next run
  | suspendPermit => exact (h.executeRequest fun _ _ h => h.suspendPermitRule).next run
  | resumePermit => exact (h.executeQuiet resumePermitRule_reports).next run
  | revokePermit => exact (h.executeRequest fun _ _ h => h.revokePermitRule).next run
  | readPermit => exact (h.executeQuiet readPermitRule_reports).next run
  | purgePermits => exact (h.executeQuiet purgePermitsRule_reports).next run
  | loadEscort => exact (h.executeQuiet loadEscortRule_reports).next run
  | dropEscort => exact (h.executeQuiet dropEscortRule_reports).next run
  | readEscort => exact (h.executeQuiet readEscortRule_reports).next run
  | clearTables => exact (h.executeQuiet clearTablesRule_reports).next run
  | setRoom => exact (h.executeRequest fun _ _ h => h.setRoomRule).next run
  | setRoomMode => exact (h.executeRequest fun _ _ h => h.setRoomModeRule).next run
  | readRoom => exact (h.executeQuiet readRoomRule_reports).next run
  | reconcileRoom => exact (h.executeRequest fun _ _ h => h.reconcileRoomRule).next run
  | setProgram => exact (h.executeQuiet setProgramRule_reports).next run
  | cancelRelease => exact (h.executeQuiet cancelReleaseRule_reports).next run
  | resumeRoom => exact (h.executeQuiet resumeRoomRule_reports).next run
  | remoteRelease => exact (h.executeQuiet remoteReleaseRule_reports).next run
  | setStation => exact (h.executeRequest fun _ _ h => h.setStationRule).next run
  | setPart => exact (h.executeRequest fun q _ h => h.through (setPartRule_keeps q _)).next run
  | carry => exact (h.executeQuiet carryRule_reports).next run
  | readStatus => exact absurd rfl notRead
  | saveSettings answers => exact (h.executeQuiet fun q s => saveSettingsRule_reports q s answers).next run
  | saveWriteEnd => exact h.saveWriteEnd run
  | restart => exact (h.executeQuiet restartRule_reports).next run
  | assignAddress => exact (h.executeQuiet assignAddressRule_reports).next run
  | secondTick => exact h.secondTick run
  | visitSend => exact h.visitSend run
  | visitTimeout => exact h.visitTimeout run
  | fieldGapAbandon => exact h.fieldGapAbandon run
  | fieldFrame => exact h.fieldFrame run
  | heldTimerExpiry => exact h.heldTimerExpiry run
  | waitExpiry => exact h.waitExpiry run
  | partyWindowExpiry => exact h.partyWindowExpiry run
  | leadWindowExpiry => exact h.leadWindowExpiry run
  | overlayExpiry => exact h.overlayExpiry run
  | trunkFrameDiscarded => exact h.next run
  | replySent => exact h.replySent run
  | powerLost => exact h.powerLost run

end AlarmLost

/-! ## The resets and READ STATUS (10 R172) -/

@[simp] theorem enterStarting_overflow (s : State) (kind : ResetKind) : (s.enterStarting kind).reports.overflow = false := rfl

/-- The STARTUP alarm finds the queues of a reset, so it has a place. -/
@[simp] theorem enterRunning_overflow (s : State) : s.enterRunning.reports.overflow = false := rfl

theorem overflow_of_powerOnReset {cut : WriteCut} {s t : State} (run : exec (.powerOnReset cut) s = .next t) :
    t.reports.overflow = false := by
  obtain rfl := Host.Outcome.next.inj run
  exact enterStarting_overflow _ _

theorem overflow_of_restartReset {s t : State} (running : s.phase = .running) (sent : s.executor = .restartSent)
    (run : exec .restartReset s = .next t) : t.reports.overflow = false := by
  have due : (s.isRunning && s.restartDue) = true := by simp [State.isRunning, State.restartDue, running, sent]
  obtain rfl := Host.Outcome.next.inj run
  rw [if_pos due]
  exact enterStarting_overflow s _

theorem overflow_of_settingsLoadEnd {moment : Nat} {answers : Bool} {kind : ResetKind} {s t : State}
    (load : s.phase = .settingsLoad kind) (run : exec (.settingsLoadEnd moment answers) s = .next t) :
    t.reports.overflow = false := by
  have eq : exec (.settingsLoadEnd moment answers) s = .next ((s.advance moment).takeLoad kind answers).enterRunning := by
    simp only [exec, execSettingsLoadEnd, load]
  obtain rfl := Host.Outcome.next.inj (eq.symm.trans run)
  exact enterRunning_overflow _

theorem readStatusRule_noFields (tag : Nat) (s : State) :
    readStatusRule { tag := tag, name := 23, body := [] } s
      = answered (s.withReports { s.reports with overflow := false }) .done (.status s.statusPicture) := rfl

/-- READ STATUS reports the flag as it stood and clears it. -/
theorem exec_readStatus_of_atHead {tag : Nat} {rest : List Request} {s : State} (h : s.atHead tag 23 [] rest) :
    exec .readStatus s = .next (((s.taken rest).withReports { s.reports with overflow := false }).plusAnswer tag 23 .done
      (.status (s.taken rest).statusPicture)) :=
  congrArg Host.Outcome.next (executeNamed_of_atHead h (readStatusRule_noFields tag (s.taken rest)))

/-- Settles O60: the three ends of an offered alarm, the flag clear after each reset, kept by every other command, and reported and
cleared by READ STATUS. -/
theorem alarmOverflowStaysUntilReadStatus : Obligations.AlarmOverflowStaysUntilReadStatus := by
  refine ⟨fun _ _ => Reports.offerAlarm_of_full, fun _ _ _ _ _ => Reports.offerAlarm_of_waiting,
    fun _ _ => Reports.offerAlarm_of_place, fun cut moment answers s t reset => ?_,
    fun i s t notRead notRestart notPowerOn notLoad lost run => AlarmLost.exec lost notRead notRestart notPowerOn notLoad run,
    fun tag rest s head => ⟨_, _, exec_readStatus_of_atHead head, rfl, rfl⟩⟩
  obtain powerOn | ⟨running, sent, restart⟩ | ⟨⟨kind, load⟩, loaded⟩ := reset
  · exact overflow_of_powerOnReset powerOn
  · exact overflow_of_restartReset running sent restart
  · exact overflow_of_settingsLoadEnd load loaded

end Sys2Proof.Machine

/-! PROOF. What each command can change: the fields of State that its meaning touches, said once for every command. -/

namespace Sys2Proof.Machine

set_option Elab.async false

/-! ## The rules of the requests (09 R162) -/

@[simp] theorem answered_state (s : State) (status : Status) (data : AnswerData) : (answered s status data).state = s := rfl

theorem Keeps.answered {fs : List Field} {s t : State} (h : Keeps fs s t) (status : Status) (data : AnswerData) :
    Keeps fs s (answered t status data).state := h

section
variable (q : Request) (s : State)

theorem loadPermitRule_keeps : Keeps [.permits] s (loadPermitRule q s).state := by
  have stored (kind : LoadKind) (record : Permit) : Keeps [.permits] s (s.storePermit kind record).state := by
    fun_cases State.storePermit
    · exact Keeps.refl _ s
    · exact withPermits_keeps s _
  fun_cases loadPermitRule
  case case3 | case4 => exact stored _ _
  all_goals exact Keeps.refl _ s

theorem dropPermitRule_keeps : Keeps [.permits] s (dropPermitRule q s).state := by
  fun_cases dropPermitRule
  case case3 => exact withPermits_keeps s _
  all_goals exact Keeps.refl _ s

theorem withdrawn_keeps (c : Nat) (x : PermitState) :
    Keeps [.permits, .rooms, .slots, .roll, .reports] s ((s.setPermitState c x).withdraw c x) :=
  (setPermitState_keeps s c x).mono.trans (withdraw_keeps _ c x).mono

theorem suspendPermitRule_keeps : Keeps [.permits, .rooms, .slots, .roll, .reports] s (suspendPermitRule q s).state := by
  fun_cases suspendPermitRule
  case case3 c _ _ _ _ => exact (withdrawn_keeps s c .suspended).answered _ _
  all_goals exact Keeps.refl _ s

theorem revokePermitRule_keeps : Keeps [.permits, .rooms, .slots, .roll, .reports] s (revokePermitRule q s).state := by
  fun_cases revokePermitRule
  case case4 c _ _ _ _ => exact (withdrawn_keeps s c .revoked).answered _ _
  all_goals exact Keeps.refl _ s

theorem resumePermitRule_keeps : Keeps [.permits] s (resumePermitRule q s).state := by
  fun_cases resumePermitRule
  case case4 => exact setPermitState_keeps s _ _
  all_goals exact Keeps.refl _ s

theorem readPermitRule_keeps : Keeps [] s (readPermitRule q s).state := by
  fun_cases readPermitRule
  all_goals exact Keeps.refl _ s

theorem purgePermitsRule_keeps : Keeps [.permits] s (purgePermitsRule q s).state := by
  fun_cases purgePermitsRule
  case case3 => exact withPermits_keeps s _
  all_goals exact Keeps.refl _ s

theorem loadEscortRule_keeps : Keeps [.roster] s (loadEscortRule q s).state := by
  fun_cases loadEscortRule
  case case3 | case4 => exact withRoster_keeps s _
  all_goals exact Keeps.refl _ s

theorem dropEscortRule_keeps : Keeps [.roster] s (dropEscortRule q s).state := by
  fun_cases dropEscortRule
  case case3 => exact withRoster_keeps s _
  all_goals exact Keeps.refl _ s

theorem readEscortRule_keeps : Keeps [] s (readEscortRule q s).state := by
  fun_cases readEscortRule
  all_goals exact Keeps.refl _ s

theorem clearTablesRule_keeps : Keeps [.permits, .roster] s (clearTablesRule q s).state := by
  fun_cases clearTablesRule
  case case3 => exact (withPermits_keeps s _).mono.trans (withRoster_keeps _ _).mono
  all_goals exact Keeps.refl _ s

theorem setRoomRule_keeps : Keeps [.settings, .rooms, .roll, .doors, .reports] s (setRoomRule q s).state := by
  fun_cases setRoomRule
  case case4 => exact (applyRoom_keeps s _ _).answered _ _
  all_goals exact Keeps.refl _ s

theorem setRoomModeRule_keeps : Keeps [.rooms, .slots, .doors, .reports] s (setRoomModeRule q s).state := by
  fun_cases setRoomModeRule
  case case4 => exact (changeMode_keeps s _ _).answered _ _
  all_goals exact Keeps.refl _ s

theorem readRoomRule_keeps : Keeps [] s (readRoomRule q s).state := by
  fun_cases readRoomRule
  all_goals exact Keeps.refl _ s

theorem reconcileRoomRule_keeps : Keeps [.rooms, .slots, .roll, .reports] s (reconcileRoomRule q s).state := by
  fun_cases reconcileRoomRule
  case case3 => exact (reconcile_keeps s _ _).answered _ _
  all_goals exact Keeps.refl _ s

theorem setProgramRule_keeps : Keeps [.settings] s (setProgramRule q s).state := by
  fun_cases setProgramRule
  case case2 => exact withSettings_keeps s _
  all_goals exact Keeps.refl _ s

theorem cancelReleaseRule_keeps : Keeps [.doors] s (cancelReleaseRule q s).state := by
  fun_cases cancelReleaseRule
  case case3 => exact cancelProgram_keeps s _
  all_goals exact Keeps.refl _ s

theorem resumeRoomRule_keeps : Keeps [.doors] s (resumeRoomRule q s).state := by
  fun_cases resumeRoomRule
  case case4 => exact secureAgain_keeps s _
  all_goals exact Keeps.refl _ s

theorem remoteReleaseRule_keeps : Keeps [.doors] s (remoteReleaseRule q s).state := by
  fun_cases remoteReleaseRule
  case case4 => exact release_keeps s _ _
  all_goals exact Keeps.refl _ s

theorem setStationRule_keeps : Keeps [.settings, .field, .reports] s (setStationRule q s).state := by
  fun_cases setStationRule
  case case3 a new speed _ _ _ _ =>
    have written : Keeps [.settings, .field, .reports] s (s.writeStation a new speed) := (writeStation_keeps s a new speed).mono
    exact Keeps.ite (written.trans (enableStation_keeps _).mono) (written.trans (disableStation_keeps _ a).mono)
  all_goals exact Keeps.refl _ s

theorem carryRule_keeps : Keeps [.field] s (carryRule q s).state := by
  fun_cases carryRule
  case case4 => exact withField_keeps s _
  all_goals exact Keeps.refl _ s

theorem readStatusRule_keeps : Keeps [.reports] s (readStatusRule q s).state := by
  fun_cases readStatusRule
  case case2 => exact withReports_keeps s _
  all_goals exact Keeps.refl _ s

theorem saveSettingsRule_keeps (answers : Bool) : Keeps [.executor] s (saveSettingsRule answers q s).state := by
  fun_cases saveSettingsRule
  case case2 => exact withExecutor_keeps s _
  all_goals exact Keeps.refl _ s

theorem restartRule_keeps : Keeps [.executor] s (restartRule q s).state := by
  fun_cases restartRule
  case case2 => exact withExecutor_keeps s _
  all_goals exact Keeps.refl _ s

theorem assignAddressRule_keeps : Keeps [.trunk] s (assignAddressRule q s).state := by
  fun_cases assignAddressRule
  case case3 => exact withTrunk_keeps s _
  all_goals exact Keeps.refl _ s

end

/-! ## The commands -/

/-- The fields that a reset and the entry into RUNNING set anew (11 R177, R181). -/
abbrev renewed : List Field :=
  [.phase, .now, .memory, .loadResult, .settings, .retired, .permits, .roster, .clock, .rooms, .slots, .roll, .doors, .stations,
   .field, .trunk, .executor, .reports, .lastSeen]

/-- The fields that the end of a visit can touch (08 R147). -/
abbrev visited : List Field :=
  [.now, .permits, .rooms, .slots, .roll, .doors, .stations, .field, .reports, .lastSeen]

/-- The fields that a command can touch. -/
def touchedBy : Instr → List Field
  | .powerOnReset _ | .restartReset => renewed
  | .settingsLoadEnd _ _ => renewed
  | .selfTestEnd _ _ => [.phase, .now, .retired]
  | .trunkGapAbandon _ | .trunkFrameDiscarded _ => []
  | .timeFrame _ _ => [.now, .clock]
  | .commandFrame _ _ => [.now, .trunk]
  | .poll _ _ => [.now, .trunk, .reports]
  | .silenceTimerExpiry => [.now, .trunk]
  | .unknownRequest | .readPermit | .readEscort | .readRoom | .readStatus => [.trunk, .reports]
  | .loadPermit | .dropPermit | .resumePermit | .purgePermits => [.trunk, .reports, .permits]
  | .suspendPermit | .revokePermit => [.trunk, .reports, .permits, .rooms, .slots, .roll]
  | .loadEscort | .dropEscort => [.trunk, .reports, .roster]
  | .clearTables => [.trunk, .reports, .permits, .roster]
  | .setRoom => [.trunk, .reports, .settings, .rooms, .roll, .doors]
  | .setRoomMode => [.trunk, .reports, .rooms, .slots, .doors]
  | .reconcileRoom => [.trunk, .reports, .rooms, .slots, .roll]
  | .setProgram => [.trunk, .reports, .settings]
  | .cancelRelease | .resumeRoom | .remoteRelease => [.trunk, .reports, .doors]
  | .setStation => [.trunk, .reports, .settings, .field]
  | .setPart => [.trunk, .reports, .settings, .rooms]
  | .carry => [.trunk, .reports, .field]
  | .saveSettings _ | .restart => [.trunk, .reports, .executor]
  | .saveWriteEnd _ _ => [.now, .memory, .executor, .reports]
  | .assignAddress => [.trunk, .reports]
  | .secondTick _ => [.now, .clock, .roll, .reports]
  | .visitSend _ => [.now, .field]
  | .visitTimeout | .fieldGapAbandon _ _ => [.now, .rooms, .slots, .doors, .stations, .field, .reports]
  | .fieldFrame _ _ _ => visited
  | .heldTimerExpiry _ => [.now, .doors, .reports]
  | .waitExpiry _ => [.now, .doors]
  | .partyWindowExpiry _ | .leadWindowExpiry _ => [.now, .rooms, .slots, .reports]
  | .overlayExpiry _ _ => [.now, .rooms]
  | .replySent _ => [.now, .trunk, .executor]
  | .powerLost _ => [.phase, .memory, .executor]

section
variable {s t : State} {moment : Nat} {bytes : List Byte} {r : RoomId}

/-- A request touches what its rule touches, the command queue and the answer queue. -/
theorem exec_request_keeps {fs : List Field} {isRow : Nat → Bool} {rule : Request → State → Executed}
    (h : ∀ q s, Keeps fs s (rule q s).state)
    (run : (Host.Outcome.next (s.executeRequest isRow rule) : Host.Outcome State Fault Refusal) = .next t) {gs : List Field}
    (sub : ∀ f ∈ .trunk :: .reports :: fs, f ∈ gs := by decide) : Keeps gs s t := by
  obtain rfl := Host.Outcome.next.inj run
  exact (executeRequest_keeps h isRow s).mono sub

/-- A reset and the entry into RUNNING leave the serial number and the model's queue. -/
theorem keeps_renewed (serial : t.serial = s.serial) (pending : t.pending = s.pending) : Keeps renewed s t := by
  intro f hf
  cases f
  case serial => exact serial
  case pending => exact pending
  all_goals exact absurd (by decide) hf

theorem selfTestEnd_keeps {failing : List Nat} (run : execSelfTestEnd moment failing s = .next t) :
    Keeps [.phase, .now, .retired] s t := by
  obtain rfl := Host.Outcome.next.inj run
  split
  · exact ((advance_keeps s _).mono.trans (withRetired_keeps _ _).mono).trans (withPhase_keeps _ _).mono
  · exact Keeps.refl _ s

theorem settingsLoadEnd_keeps {answers : Bool} (run : execSettingsLoadEnd moment answers s = .next t) :
    Keeps renewed s t := by
  obtain rfl := Host.Outcome.next.inj run
  split
  · exact keeps_renewed rfl rfl
  · exact Keeps.refl _ s

theorem timeFrame_keeps (run : execTimeFrame moment bytes s = .next t) : Keeps [.now, .clock] s t := by
  obtain rfl := Host.Outcome.next.inj run
  split
  · split
    · exact (advance_keeps s _).mono.trans (withClock_keeps _ _).mono
    · exact Keeps.refl _ s
  · exact Keeps.refl _ s

theorem commandFrame_keeps (run : execCommandFrame moment bytes s = .next t) : Keeps [.now, .trunk] s t := by
  obtain rfl := Host.Outcome.next.inj run
  split
  · exact ((advance_keeps s _).mono.trans (restartSilence_keeps _).mono).trans (offerCommand_keeps _ _).mono
  · exact Keeps.refl _ s

theorem poll_keeps (run : execPoll moment bytes s = .next t) : Keeps [.now, .trunk, .reports] s t := by
  obtain rfl := Host.Outcome.next.inj run
  split
  · exact (((advance_keeps s _).mono.trans (restartSilence_keeps _).mono).trans (restoreLink_keeps _).mono).trans
      (reply_keeps _ _ _).mono
  · exact Keeps.refl _ s

theorem silenceTimerExpiry_keeps (run : execSilenceTimerExpiry s = .next t) : Keeps [.now, .trunk] s t := by
  obtain rfl := Host.Outcome.next.inj run
  refine Keeps.ite ?_ (Keeps.refl _ s)
  split
  · exact (advance_keeps s _).mono.trans (withTrunk_keeps _ _).mono
  · exact Keeps.refl _ s

theorem saveWriteEnd_keeps {outcome : WriteOutcome} (run : execSaveWriteEnd moment outcome s = .next t) :
    Keeps [.now, .memory, .executor, .reports] s t := by
  obtain rfl := Host.Outcome.next.inj run
  refine Keeps.ite ?_ (Keeps.refl _ s)
  split
  · exact (((advance_keeps s _).mono.trans (withMemory_keeps _ _).mono).trans (withExecutor_keeps _ _).mono).trans
      (answer_keeps _ _ _ _).mono
  · exact Keeps.refl _ s

theorem secondTick_keeps {staleFirst : Bool} (run : execSecondTick staleFirst s = .next t) :
    Keeps [.now, .clock, .roll, .reports] s t := by
  obtain rfl := Host.Outcome.next.inj run
  have counted (c : Clock) : Keeps [.now, .clock, .roll, .reports] s ((s.advance s.clock.nextCount).withClock c) :=
    (advance_keeps s _).mono.trans (withClock_keeps _ _).mono
  exact Keeps.ite (Keeps.ite ((counted _).trans (minuteEvent_keeps _ _).mono) (counted _)) (Keeps.refl _ s)

theorem visitSend_keeps (run : execVisitSend moment s = .next t) : Keeps [.now, .field] s t := by
  obtain rfl := Host.Outcome.next.inj run
  refine Keeps.ite ?_ (Keeps.refl _ s)
  split
  · exact (advance_keeps s _).mono.trans (sendVisit_keeps _ _).mono
  · exact Keeps.refl _ s

theorem visitTimeout_keeps (run : execVisitTimeout s = .next t) :
    Keeps [.now, .rooms, .slots, .doors, .stations, .field, .reports] s t := by
  obtain rfl := Host.Outcome.next.inj run
  refine Keeps.ite ?_ (Keeps.refl _ s)
  split
  · exact replyMissed_keeps s _
  · exact Keeps.refl _ s

theorem fieldGapAbandon_keeps (run : execFieldGapAbandon moment bytes s = .next t) :
    Keeps [.now, .rooms, .slots, .doors, .stations, .field, .reports] s t := by
  obtain rfl := Host.Outcome.next.inj run
  refine Keeps.ite ?_ (Keeps.refl _ s)
  split
  · exact (advance_keeps s _).mono.trans (visitFailed_keeps _ _ _).mono
  · exact Keeps.refl _ s

theorem fieldFrame_keeps {began : Nat} (run : execFieldFrame moment bytes began s = .next t) : Keeps visited s t := by
  obtain rfl := Host.Outcome.next.inj run
  refine Keeps.ite ?_ (Keeps.refl _ s)
  split
  · exact Keeps.refl _ s
  · exact Keeps.ite (frameEnded_keeps s _ _ _) (replyMissed_keeps s _).mono

theorem heldTimerExpiry_keeps (run : execHeldTimerExpiry r s = .next t) : Keeps [.now, .doors, .reports] s t := by
  obtain rfl := Host.Outcome.next.inj run
  refine Keeps.ite ?_ (Keeps.refl _ s)
  split
  · exact (advance_keeps s _).mono.trans (heldExpired_keeps _ _ _).mono
  · exact Keeps.refl _ s

theorem waitExpiry_keeps (run : execWaitExpiry r s = .next t) : Keeps [.now, .doors] s t := by
  obtain rfl := Host.Outcome.next.inj run
  refine Keeps.ite ?_ (Keeps.refl _ s)
  split
  · exact (advance_keeps s _).mono.trans (setDoor_keeps _ _ _).mono
  · exact Keeps.refl _ s

theorem partyWindowExpiry_keeps (run : execPartyWindowExpiry r s = .next t) :
    Keeps [.now, .rooms, .slots, .reports] s t := by
  obtain rfl := Host.Outcome.next.inj run
  refine Keeps.ite ?_ (Keeps.refl _ s)
  split
  · exact (advance_keeps s _).mono.trans (breakSlot_keeps _ _ _).mono
  · exact Keeps.refl _ s

theorem leadWindowExpiry_keeps (run : execLeadWindowExpiry r s = .next t) :
    Keeps [.now, .rooms, .slots, .reports] s t := by
  obtain rfl := Host.Outcome.next.inj run
  refine Keeps.ite ?_ (Keeps.refl _ s)
  split
  · next l _ =>
    have cleared : Keeps [.now, .rooms, .slots, .reports] s ((s.advance l.window.ends).setSlot r .empty) :=
      (advance_keeps s _).mono.trans (setSlot_keeps _ _ _).mono
    dsimp only
    split
    · exact cleared
    · exact cleared.trans (issue_keeps _ _).mono
  · exact Keeps.refl _ s

theorem overlayExpiry_keeps {d : Direction} (run : execOverlayExpiry r d s = .next t) : Keeps [.now, .rooms] s t := by
  obtain rfl := Host.Outcome.next.inj run
  refine Keeps.ite ?_ (Keeps.refl _ s)
  have ended (moment : Nat) (x : RoomState) : Keeps [.now, .rooms] s ((s.advance moment).setRoom r x) :=
    (advance_keeps s _).mono.trans (setRoom_keeps _ _ _).mono
  cases d with
  | entry =>
    dsimp only
    split
    · exact ended _ _
    · exact Keeps.refl _ s
  | exit =>
    dsimp only
    split
    · exact ended _ _
    · exact Keeps.refl _ s

theorem replySent_keeps (run : execReplySent moment s = .next t) : Keeps [.now, .trunk, .executor] s t := by
  obtain rfl := Host.Outcome.next.inj run
  refine Keeps.ite ?_ (Keeps.refl _ s)
  split
  · have released : Keeps [.now, .trunk, .executor] s ((s.advance moment).withTrunk { s.trunk with reply := none }) :=
      (advance_keeps s _).mono.trans (withTrunk_keeps _ _).mono
    exact Keeps.ite (released.trans (withExecutor_keeps _ _).mono) released
  · exact Keeps.refl _ s

theorem powerLost_keeps {cut : WriteCut} (run : execPowerLost cut s = .next t) : Keeps [.phase, .memory, .executor] s t := by
  obtain rfl := Host.Outcome.next.inj run
  have stopped : Keeps [.phase, .memory, .executor] s (s.withMemory (s.memoryAtCut cut)) := (withMemory_keeps s _).mono
  refine Keeps.trans ?_ (withPhase_keeps _ _).mono
  split
  · exact stopped.trans (withExecutor_keeps _ _).mono
  · exact stopped

/-- Every command touches the fields that `touchedBy` lists for it and no other. -/
theorem exec_keeps {i : Instr} (run : exec i s = .next t) : Keeps (touchedBy i) s t := by
  cases i with
  | powerOnReset =>
    obtain rfl := Host.Outcome.next.inj run
    exact keeps_renewed rfl rfl
  | restartReset =>
    obtain rfl := Host.Outcome.next.inj run
    exact Keeps.ite (keeps_renewed rfl rfl) (Keeps.refl _ s)
  | selfTestEnd => exact selfTestEnd_keeps run
  | settingsLoadEnd => exact settingsLoadEnd_keeps run
  | trunkGapAbandon | trunkFrameDiscarded =>
    obtain rfl := Host.Outcome.next.inj run
    exact Keeps.refl _ s
  | timeFrame => exact timeFrame_keeps run
  | commandFrame => exact commandFrame_keeps run
  | poll => exact poll_keeps run
  | silenceTimerExpiry => exact silenceTimerExpiry_keeps run
  | unknownRequest => exact exec_request_keeps (fun _ s => Keeps.refl [] s) run
  | loadPermit => exact exec_request_keeps loadPermitRule_keeps run
  | dropPermit => exact exec_request_keeps dropPermitRule_keeps run
  | suspendPermit => exact exec_request_keeps suspendPermitRule_keeps run
  | resumePermit => exact exec_request_keeps resumePermitRule_keeps run
  | revokePermit => exact exec_request_keeps revokePermitRule_keeps run
  | readPermit => exact exec_request_keeps readPermitRule_keeps run
  | purgePermits => exact exec_request_keeps purgePermitsRule_keeps run
  | loadEscort => exact exec_request_keeps loadEscortRule_keeps run
  | dropEscort => exact exec_request_keeps dropEscortRule_keeps run
  | readEscort => exact exec_request_keeps readEscortRule_keeps run
  | clearTables => exact exec_request_keeps clearTablesRule_keeps run
  | setRoom => exact exec_request_keeps setRoomRule_keeps run
  | setRoomMode => exact exec_request_keeps setRoomModeRule_keeps run
  | readRoom => exact exec_request_keeps readRoomRule_keeps run
  | reconcileRoom => exact exec_request_keeps reconcileRoomRule_keeps run
  | setProgram => exact exec_request_keeps setProgramRule_keeps run
  | cancelRelease => exact exec_request_keeps cancelReleaseRule_keeps run
  | resumeRoom => exact exec_request_keeps resumeRoomRule_keeps run
  | remoteRelease => exact exec_request_keeps remoteReleaseRule_keeps run
  | setStation => exact exec_request_keeps setStationRule_keeps run
  | setPart => exact exec_request_keeps setPartRule_keeps run
  | carry => exact exec_request_keeps carryRule_keeps run
  | readStatus => exact exec_request_keeps readStatusRule_keeps run
  | saveSettings answers => exact exec_request_keeps (fun q s => saveSettingsRule_keeps q s answers) run fun _ h => h
  | restart => exact exec_request_keeps restartRule_keeps run
  | saveWriteEnd => exact saveWriteEnd_keeps run
  | assignAddress => exact exec_request_keeps assignAddressRule_keeps run
  | secondTick => exact secondTick_keeps run
  | visitSend => exact visitSend_keeps run
  | visitTimeout => exact visitTimeout_keeps run
  | fieldGapAbandon => exact fieldGapAbandon_keeps run
  | fieldFrame => exact fieldFrame_keeps run
  | heldTimerExpiry => exact heldTimerExpiry_keeps run
  | waitExpiry => exact waitExpiry_keeps run
  | partyWindowExpiry => exact partyWindowExpiry_keeps run
  | leadWindowExpiry => exact leadWindowExpiry_keeps run
  | overlayExpiry => exact overlayExpiry_keeps run
  | replySent => exact replySent_keeps run
  | powerLost => exact powerLost_keeps run

end

end Sys2Proof.Machine

/-! PROOF. The law of a door (07 R122 to R139) through every operation of Door Control. -/

namespace Sys2Proof.Machine

set_option Elab.async false

/-- The part of the law of a door that holds between two steps of a program too, where its image and its WAIT timer are still
under way. -/
structure Door.lawful (d : Door) : Prop where
  heldRuns : d.heldTimer.isSome = (d.state == .opened && !d.image.shunt)
  releasedUnlocked : d.state = .released → d.image.unlocked = true
  secureLocked : d.state = .secure ∨ d.state = .forced → d.image.unlocked = false
  causeInFault : d.cause.isSome = (d.state == .fault || d.state == .faultHold)

section
variable {d : Door} (now : Nat) (room : RoomSettings)

theorem Door.sound.lawful (h : d.sound) : d.lawful :=
  ⟨h.heldRuns, h.releasedUnlocked, h.secureLocked, h.causeInFault⟩

/-- An action step keeps the law: it moves the state together with the lock, and the held timer together with the shunt. -/
theorem Door.act_lawful (h : d.lawful) (x : Step) : (d.act now room x).lawful := by
  obtain ⟨held, released, secure, cause⟩ := h
  cases x with
  | lock =>
    cases e : d.state <;> simp only [e, Bool.beq_eq_decide_eq] at held released secure cause <;>
      constructor <;> simp_all [Door.act, Bool.beq_eq_decide_eq]
  | unlock =>
    cases e : d.state <;> simp only [e, Bool.beq_eq_decide_eq] at held released secure cause <;>
      constructor <;> simp_all [Door.act, Bool.beq_eq_decide_eq]
    cases d.image.shunt <;> rfl
  | shuntOn | shuntOff =>
    refine ⟨?_, released, secure, cause⟩
    cases k : d.image.shunt <;> cases open_ : d.state == .opened <;> simp_all [Door.act]
  | sounderOn | sounderOff | beaconOn | beaconOff | wait => exact ⟨held, released, secure, cause⟩

@[simp] theorem Door.act_program (x : Step) : (d.act now room x).program = d.program := by
  cases x <;> cases e : d.state <;> simp [Door.act, e]

theorem Door.endActions_sound (h : d.lawful) : (d.endActions now room).sound := by
  have acted := Door.act_lawful now room (Door.act_lawful now room (Door.act_lawful now room
    (Door.act_lawful now room h .lock) .sounderOff) .beaconOff) .shuntOff
  exact ⟨fun _ => Door.endActions_image now room d, rfl, acted.heldRuns, acted.releasedUnlocked, acted.secureLocked,
    acted.causeInFault⟩

theorem Door.endActions_state :
    (d.endActions now room).state = if d.state = .released then .secure else d.state := by
  cases h : d.state <;> simp [Door.endActions, Door.act, h]

/-- A run of steps ends in a WAIT or with the end actions, so it gives the whole law back. -/
theorem Door.takeSteps_sound (adjusted : Option Nat) (k : Nat) (steps : List Step) (h : d.lawful)
    (runs : d.program.isSome = true) : (Door.takeSteps now room adjusted k steps d).sound := by
  induction steps generalizing k d with
  | nil => exact Door.endActions_sound now room h
  | cons x rest ih =>
    by_cases wait : ∃ n, x = .wait n
    · obtain ⟨n, rfl⟩ := wait
      exact ⟨fun none => by simp_all [Door.takeSteps], by simp [Door.takeSteps, runs], h.heldRuns, h.releasedUnlocked,
        h.secureLocked, h.causeInFault⟩
    · have taken : Door.takeSteps now room adjusted k (x :: rest) d
          = Door.takeSteps now room adjusted (k + 1) rest (d.act now room x) := by
        cases x <;> first | rfl | exact absurd ⟨_, rfl⟩ wait
      rw [taken]
      exact ih (k + 1) (Door.act_lawful now room h x) (by simpa using runs)

theorem Door.start_sound (kind : Direction) (number : ProgramId) (steps : List Step) (h : d.sound) :
    (d.start now room kind number steps).sound :=
  Door.takeSteps_sound now room _ 1 steps ⟨h.heldRuns, h.releasedUnlocked, h.secureLocked, h.causeInFault⟩ rfl

theorem Door.afterWait_sound (h : d.sound) : (d.afterWait now room).sound := by
  unfold Door.afterWait
  split
  · next none =>
    have stopped : d.waitTimer = .none := by simpa [none] using h.waits
    rw [← stopped]
    exact h
  · next p some =>
    exact Door.takeSteps_sound now room _ _ _ ⟨h.heldRuns, h.releasedUnlocked, h.secureLocked, h.causeInFault⟩
      (by simp [some])

theorem Door.endProgram_sound (h : d.sound) : (d.endProgram now room).sound := by
  unfold Door.endProgram
  split
  · exact Door.endActions_sound now room h.lawful
  · exact h

@[simp] theorem Door.endProgram_program : (d.endProgram now room).program = none := by
  unfold Door.endProgram
  split
  · rfl
  · next h => simpa using h

/-- Without a program a door has its outputs off, also after one has been ended. -/
theorem Door.endProgram_image (h : d.sound) : (d.endProgram now room).image = Door.atReset.image :=
  (Door.endProgram_sound now room h).idleLocked (Door.endProgram_program now room)

theorem Door.endProgram_state_of_fault (h : d.state = .fault ∨ d.state = .faultHold) :
    (d.endProgram now room).state = d.state := by
  unfold Door.endProgram
  split
  · obtain h | h := h <;> simp [Door.endActions_state, h]
  · rfl

/-- The held timer does not run in a fault. -/
theorem Door.endProgram_heldTimer_of_fault (h : d.sound) (fault : d.state = .fault ∨ d.state = .faultHold) :
    (d.endProgram now room).heldTimer = none := by
  have law := (Door.endProgram_sound now room h).heldRuns
  rw [Door.endProgram_state_of_fault now room fault] at law
  obtain e | e := fault <;> simpa [e, Bool.beq_eq_decide_eq] using law

/-- A door whose program was ended and whose timers stopped, put to SECURE or into a fault. -/
theorem Door.sound_of_idle (h : d.program = none) (image : d.image = Door.atReset.image) (wait : d.waitTimer = none)
    (held : d.heldTimer = none) (state : d.state = .secure ∨ d.state = .fault)
    (cause : d.cause.isSome = (d.state == .fault)) : d.sound := by
  obtain state | state := state <;> constructor <;> simp_all [Door.atReset]

theorem Door.endProgram_waitTimer (h : d.sound) : (d.endProgram now room).waitTimer = none := by
  simpa using (Door.endProgram_sound now room h).waits

theorem Door.faulted_sound (cause : FaultCause) (h : d.sound) :
    ({ d.endProgram now room with state := .fault, cause := some cause, heldTimer := none } : Door).sound :=
  Door.sound_of_idle (Door.endProgram_program now room) (Door.endProgram_image now room h)
    (Door.endProgram_waitTimer now room h) rfl (.inr rfl) rfl

theorem Door.secured_sound (h : d.sound) (fault : d.state = .fault ∨ d.state = .faultHold) :
    ({ d.endProgram now room with state := .secure, cause := none } : Door).sound :=
  Door.sound_of_idle (Door.endProgram_program now room) (Door.endProgram_image now room h)
    (Door.endProgram_waitTimer now room h)
    (Door.endProgram_heldTimer_of_fault now room h fault) (.inl rfl) rfl

end

end Sys2Proof.Machine

/-! PROOF. What the shared operations do, said once as a chain of small changes, each with what it keeps. Every operation of Door
Control, the Occupancy Roll, the Decision Engine, the Party Unit and the Field Port is such a chain (`Touches`), and each invariant
that the small changes keep is kept by all of them. -/

namespace Sys2Proof.Machine

set_option Elab.async false

/-- A permit record changed in its state, its lock or its last entry alone: its cells stay (01 R11 to R16). -/
structure Permit.SameTerms (p q : Permit) : Prop where
  credential : q.credential = p.credential
  grants : q.grants = p.grants
  headerCell : q.headerCell = p.headerCell
  grantCells : q.grantCells = p.grantCells

/-- A party less one member keeps its bounds: it is not emptied, and a PAIR party's one member is gone or stays. -/
theorem Slot.without_sound {x : Slot} (h : x.sound) (c : Nat) : (x.without c).sound := by
  unfold Slot.without
  split
  · next y =>
    split
    · obtain ⟨low, high, pair⟩ := h
      have fewer : (y.members.filter fun m => m.credential != c).length ≤ y.members.length := List.length_filter_le _ _
      split
      · trivial
      · next m ms eq =>
        rw [eq, List.length_cons] at fewer
        refine ⟨by simp, by simpa using fewer.trans high, fun notStaff => ?_⟩
        have one : y.members.length = 1 := pair notStaff
        simp only [List.length_cons]
        omega
    · exact h
  · exact h

theorem Slot.withoutWaiting_sound {x : Slot} (h : x.sound) (c : Nat) : (x.withoutWaiting c).sound := by
  unfold Slot.withoutWaiting
  split
  · split
    · trivial
    · exact h
  · exact h

/-- What an occupancy check that passes says of the roll (04 R74). -/
theorem State.noPlaceFor_eq_none {s : State} {r : RoomId} {n : Nat} :
    s.noPlaceFor r n = none ↔ s.roomCount r + n ≤ (s.roomSettings r).occupancyLimit ∧ s.roll.length + n ≤ Config.rollPlaces := by
  unfold State.noPlaceFor
  split
  · next => simp; omega
  · split
    · next => simp; omega
    · simp; omega

/-- One small change. -/
inductive Touch (s : State) : State → Prop
  | moment (x : Nat) : Touch s (s.withNow x)
  | seen (x : Vector (Option LastPresentation) 16) : Touch s (s.withLastSeen x)
  | alarm (a : Alarm) : Touch s (s.withReports (s.reports.offerAlarm a))
  | routine (i : RoutineItem) : Touch s (s.withReports (s.reports.offerRoutine i))
  | room (r : RoomId) (x : RoomState) (mode : x.mode = (s.room r).mode) : Touch s (s.setRoom r x)
  | door (r : RoomId) (d : Door) (law : (s.door r).sound → d.sound) : Touch s (s.setDoor r d)
  | station (a : StationId) (x : StationState) (law : (s.station a).sound → x.sound) : Touch s (s.setStation a x)
  | terms (f : Permit → Permit) (same : ∀ p : Permit, p.SameTerms (f p)) : Touch s (s.withPermits (s.permits.map f))
  | roll (x : List Presence) (fits : x.length ≤ max s.roll.length Config.rollPlaces) : Touch s (s.withRoll x)
  | slots (x : Vector Slot 6) (law : (∀ r, (s.slot r).sound) → ∀ r, (look x r).sound) : Touch s (s.withSlots x)
  | port (x : FieldPort) (fits : x.carryDown.length ≤ s.field.carryDown.length) : Touch s (s.withField x)

/-- A chain of small changes. -/
def Touches (s t : State) : Prop := Relation.ReflTransGen Touch s t

namespace Touches

variable {s t u : State} {r : RoomId} {p : Presentation} {v : Verdict} {c : Nat} {a : StationId}

theorem refl (s : State) : Touches s s := Relation.ReflTransGen.refl

theorem then_ (h : Touches s t) (k : Touch t u) : Touches s u := Relation.ReflTransGen.tail h k

theorem trans (h : Touches s t) (k : Touches t u) : Touches s u := Relation.ReflTransGen.trans h k

theorem ite {x : Prop} [Decidable x] (h : Touches s t) (k : Touches s u) : Touches s (if x then t else u) := by
  split
  · exact h
  · exact k

theorem foldl {α : Type} {op : State → α → State} (one : ∀ t x, Touches t (op t x)) (l : List α) (h : Touches s t) :
    Touches s (l.foldl op t) := by
  induction l generalizing t with
  | nil => exact h
  | cons x l ih => exact ih (h.trans (one t x))

/-! ### The state's operations -/

theorem advance (h : Touches s t) (moment : Nat) : Touches s (t.advance moment) := h.then_ (.moment _)

theorem raise (h : Touches s t) (room : Option RoomId) (credential station : Option Nat) (detail : AlarmDetail) :
    Touches s (t.raise room credential station detail) := h.then_ (.alarm _)

theorem offerRoutine (h : Touches s t) (i : RoutineItem) : Touches s (t.offerRoutine i) := h.then_ (.routine i)

theorem setOverlay (h : Touches s t) (d : Direction) (image : OverlayImage) : Touches s (t.setOverlay r d image) := by
  cases d with
  | entry => exact h.then_ (.room r _ rfl)
  | exit => exact h.then_ (.room r _ rfl)

theorem issue (h : Touches s t) (v : Verdict) : Touches s (t.issue v) := by
  refine Touches.offerRoutine ?_ _
  unfold State.showOutcome
  split
  · exact h.setOverlay _ _
  · exact h

theorem setRollState (h : Touches s t) (r : RoomId) (x : RollState) : Touches s (t.setRollState r x) := h.then_ (.room r _ rfl)

theorem setSlot (h : Touches s t) (r : RoomId) (x : Slot) (law : (t.slot r).sound → x.sound) : Touches s (t.setSlot r x) := by
  refine h.then_ (.slots _ fun sound q => ?_)
  rw [look_put]
  split
  · exact law (sound r)
  · exact sound q

theorem clearSlot (h : Touches s t) (r : RoomId) : Touches s (t.setSlot r .empty) := h.setSlot r _ fun _ => trivial

theorem openLead (h : Touches s t) (r : RoomId) (staff : Nat) (kind : LeadKind) (level : Nat) :
    Touches s (t.openLead r staff kind level) := h.setSlot r _ fun _ => trivial

theorem leaveOtherParty (h : Touches s t) (r : RoomId) (c : Nat) : Touches s (t.leaveOtherParty r c) := by
  refine h.then_ (.slots _ fun sound q => ?_)
  rw [look, Vector.get_ofFn]
  split
  · exact sound q
  · exact Slot.without_sound (sound q) c

theorem clearWaitingElsewhere (h : Touches s t) (r : RoomId) (c : Nat) : Touches s (t.clearWaitingElsewhere r c) := by
  refine h.then_ (.slots _ fun sound q => ?_)
  rw [look, Vector.get_ofFn]
  split
  · exact sound q
  · exact Slot.withoutWaiting_sound (sound q) c

theorem denyMembers (h : Touches s t) (r : RoomId) (size : Nat) (reason : Reason) (ms : List Member) :
    Touches s (t.denyMembers r size reason ms) := foldl (fun t _ => (refl t).issue _) ms h

theorem breakSlot (h : Touches s t) (r : RoomId) (reason : Reason) : Touches s (t.breakSlot r reason) := by
  unfold State.breakSlot
  split
  · exact (h.denyMembers _ _ _ _).clearSlot r
  · exact h.clearSlot r
  · exact h

theorem grantNotice (h : Touches s t) (c level : Nat) : Touches s (t.grantNotice c level) :=
  h.then_ (.terms _ fun p => by split <;> exact ⟨rfl, rfl, rfl, rfl⟩)

theorem setPermitState (h : Touches s t) (c : Nat) (x : PermitState) : Touches s (t.setPermitState c x) :=
  h.then_ (.terms _ fun p => by split <;> exact ⟨rfl, rfl, rfl, rfl⟩)

/-! ### Door Control (07) -/

theorem release (h : Touches s t) (r : RoomId) (kind : Direction) : Touches s (t.release r kind) := by
  obtain ⟨-, eq⟩ | ⟨-, eq⟩ := t.release_cases r kind
  · rw [eq]
    exact h
  · rw [eq]
    exact h.then_ (.door r _ (Door.start_sound _ _ _ _ _))

theorem cancelProgram (h : Touches s t) (r : RoomId) : Touches s (t.cancelProgram r) :=
  h.then_ (.door r _ (Door.endProgram_sound _ _))

theorem enterFault (h : Touches s t) (r : RoomId) (cause : FaultCause) : Touches s (t.enterFault r cause) :=
  ((h.then_ (.door r _ (Door.faulted_sound _ _ cause))).raise _ _ _ _).breakSlot r _

theorem driverOffline (h : Touches s t) (r : RoomId) : Touches s (t.driverOffline r) := by
  unfold State.driverOffline
  split
  · exact h
  · exact h
  · exact h.enterFault r _

theorem secureAgain (h : Touches s t) (fault : (t.door r).state = .fault ∨ (t.door r).state = .faultHold) :
    Touches s (t.secureAgain r) :=
  h.then_ (.door r _ fun sound => Door.secured_sound _ _ sound fault)

theorem driverOnline (h : Touches s t) (r : RoomId) : Touches s (t.driverOnline r) := by
  unfold State.driverOnline
  split
  · next fault => exact h.secureAgain (.inl fault.1)
  · exact h

theorem doorOpened (h : Touches s t) (r : RoomId) : Touches s (t.doorOpened r) := by
  unfold State.doorOpened
  dsimp only
  split
  · next secure =>
    refine Touches.setRollState (Touches.raise (h.then_ (.door r _ fun sound => ?_)) _ _ _ _) r _
    obtain ⟨idle, waits, held, -, locked, cause⟩ := sound
    rw [secure] at held cause
    exact ⟨idle, waits, held, nofun, fun _ => locked (.inl secure), cause⟩
  · next released =>
    refine h.then_ (.door r _ fun sound => ?_)
    obtain ⟨idle, waits, -, -, -, cause⟩ := sound
    rw [released] at cause
    exact ⟨idle, waits, by dsimp only; cases (t.door r).image.shunt <;> rfl, nofun, by simp, cause⟩
  · exact h

theorem doorClosed (h : Touches s t) (r : RoomId) : Touches s (t.doorClosed r) := by
  have shut (d : Door) (held : d.heldTimer = none) (sound : d.sound)
      (fault : d.state ≠ .fault ∧ d.state ≠ .faultHold) (x : DoorState)
      (law : x = if d.image.unlocked then .released else .secure) : ({ d with state := x } : Door).sound := by
    obtain ⟨idle, waits, -, -, -, cause⟩ := sound
    have none : d.cause.isSome = false := by simp [cause, fault]
    cases unlocked : d.image.unlocked <;> subst law <;>
      exact ⟨idle, waits, by simp [held, unlocked, Bool.beq_eq_decide_eq], by simp [unlocked], by simp [unlocked],
        by simp [none, unlocked, Bool.beq_eq_decide_eq]⟩
  unfold State.doorClosed
  dsimp only
  split
  · next opened =>
    refine h.then_ (.door r _ fun sound => ?_)
    obtain ⟨idle, waits, -, -, -, cause⟩ := sound
    rw [opened] at cause
    cases unlocked : (t.door r).image.unlocked <;>
      exact ⟨idle, waits, rfl, by simp [unlocked], by simp [unlocked], cause⟩
  · next held =>
    refine h.then_ (.door r _ fun sound => shut _ ?_ sound (by simp [held]) _ rfl)
    simpa [held, Bool.beq_eq_decide_eq] using sound.heldRuns
  · next forced =>
    refine h.then_ (.door r _ fun sound => shut _ ?_ sound (by simp [forced]) _ ?_)
    · simpa [forced, Bool.beq_eq_decide_eq] using sound.heldRuns
    · simp [sound.secureLocked (.inr forced)]
  · exact h

theorem faultCleared (h : Touches s t) (r : RoomId) : Touches s (t.faultCleared r) := by
  unfold State.faultCleared
  split
  · next fault =>
    refine h.then_ (.door r _ fun sound => ?_)
    obtain ⟨idle, waits, held, -, -, cause⟩ := sound
    rw [fault.1] at held cause
    exact ⟨idle, waits, held, nofun, by simp, cause⟩
  · exact h

theorem driverEvent (h : Touches s t) (r : RoomId) (e : DriverEvent) : Touches s (t.driverEvent r e) := by
  cases e with
  | opened => exact h.doorOpened r
  | closed => exact h.doorClosed r
  | button => exact (h.release r .exit).setRollState r _
  | fault => exact ite h (h.enterFault r _)
  | faultCleared => exact h.faultCleared r

theorem driverEvents (h : Touches s t) (r : RoomId) (es : List DriverEvent) : Touches s (t.driverEvents r es) :=
  foldl (fun t _ => (refl t).driverEvent r _) es h

theorem heldExpired (h : Touches s t) (opened : (t.door r).state = .opened) (x : Countdown) :
    Touches s (t.heldExpired r x) := by
  refine Touches.raise (h.then_ (.door r _ fun sound => ?_)) _ _ _ _
  obtain ⟨idle, waits, -, -, -, cause⟩ := sound
  rw [opened] at cause
  exact ⟨idle, waits, rfl, nofun, by simp, cause⟩

theorem freshStart (h : Touches s t) (r : RoomId) : Touches s (t.freshStart r) := by
  have fresh (x : DoorState) (cause : Option FaultCause) (state : x = .secure ∨ x = .fault)
      (agree : cause.isSome = (x == .fault)) (sound : (t.door r).sound) :
      ({ (t.door r).endProgram t.now (t.roomSettings r) with
          waitTimer := none, heldTimer := none, state := x, cause := cause } : Door).sound :=
    Door.sound_of_idle (Door.endProgram_program _ _) (Door.endProgram_image _ _ sound) rfl rfl state agree
  unfold State.freshStart
  dsimp only
  split
  · exact (h.then_ (.door r _ (fresh .fault _ (.inr rfl) rfl))).raise _ _ _ _
  · exact h.then_ (.door r _ (fresh .secure _ (.inl rfl) rfl))

theorem closeDown (h : Touches s t) (r : RoomId) : Touches s (t.closeDown r) :=
  h.then_ (.door r _ fun sound =>
    Door.sound_of_idle (Door.endProgram_program _ _) (Door.endProgram_image _ _ sound) rfl rfl (.inl rfl) rfl)

/-! ### The Occupancy Roll (06) -/

theorem changeRecord (h : Touches s t) (c : Nat) (f : ContractorPart → ContractorPart) : Touches s (t.changeRecord c f) :=
  h.then_ (.roll _ (by simp))

theorem evaluateLone (h : Touches s t) (r : RoomId) : Touches s (t.evaluateLone r) := h.then_ (.roll _ (by simp))

theorem addRecords (h : Touches s t) (r : RoomId) (records : List Presence)
    (fits : (t.roll ++ records).length ≤ max t.roll.length Config.rollPlaces) : Touches s (t.addRecords r records) :=
  (h.then_ (.roll _ fits)).evaluateLone r

section
variable {cause : DepartureCause}

theorem relink (h : Touches s t) (r : RoomId) (departed : Nat) (c : Nat) : Touches s (t.relink r departed cause c) := by
  unfold State.relink
  split
  · exact h.changeRecord _ _
  · exact (h.changeRecord _ _).raise _ _ _ _

theorem endEnteredLead (h : Touches s t) (r : RoomId) (staff : Nat) : Touches s (t.endEnteredLead r staff) := by
  unfold State.endEnteredLead
  split
  · exact ite (h.clearSlot r) h
  · exact h

theorem partnerLeft (h : Touches s t) (r : RoomId) (departed partner : Nat) :
    Touches s (t.partnerLeft r departed partner cause) := by
  unfold State.partnerLeft
  split
  · exact ite ((h.changeRecord _ _).raise _ _ _ _) h
  · exact h

theorem afterRemoval (h : Touches s t) (q : Presence) : Touches s (t.afterRemoval cause q) := by
  unfold State.afterRemoval
  split
  · exact (foldl (fun t _ => (refl t).relink _ _ _) _ h).endEnteredLead _ _
  · split
    · exact h.partnerLeft _ _ _
    · exact h

theorem depart (h : Touches s t) (r : RoomId) (gone : Presence → Bool) : Touches s (t.depart r gone cause) := by
  refine Touches.evaluateLone (foldl (fun t _ => (refl t).afterRemoval _) _ (h.then_ (.roll _ ?_))) r
  exact (List.length_filter_le _ _).trans (Nat.le_max_left _ _)

end

theorem stayCheck (h : Touches s t) (q : Presence) (minute : Nat) : Touches s (t.stayCheck q minute) := by
  unfold State.stayCheck
  split
  · exact h
  · exact ite ((h.changeRecord _ _).raise _ _ _ _) h

theorem checkInCheck (h : Touches s t) (q : Presence) (minute : Nat) : Touches s (t.checkInCheck q minute) := by
  unfold State.checkInCheck
  split
  · exact h
  · split
    · exact ite (ite ((h.changeRecord _ _).raise _ _ _ _) ((h.changeRecord _ _).raise _ _ _ _)) h
    · exact h

theorem rollMinute (h : Touches s t) (minute : Nat) : Touches s (t.rollMinute minute) :=
  foldl (fun t _ => ((refl t).stayCheck _ _).checkInCheck _ _) t.roll h

theorem withdrawInside (h : Touches s t) (c : Nat) (x : PermitState) : Touches s (t.withdrawInside c x) := by
  unfold State.withdrawInside
  split
  · exact h
  · split
    · exact h
    · exact (h.changeRecord _ _).raise _ _ _ _

/-! ### Decisions (04, 05) -/

theorem addChecked (h : Touches s t) {r : RoomId} {records : List Presence} (place : t.noPlaceFor r records.length = none) :
    Touches s (t.addRecords r records) := by
  refine h.addRecords r records ?_
  rw [List.length_append]
  exact (State.noPlaceFor_eq_none.mp place).2.trans (Nat.le_max_right _ _)

/-- A passback removal is raised and then departs. -/
theorem passback (h : Touches s t) (passed : t.passback r p = some u) : Touches s u := by
  unfold State.passback at passed
  split at passed
  · cases passed
    exact h
  · split at passed
    · cases passed
    · cases passed
      exact (h.raise _ _ _ _).depart _ _

section
variable {w : Permit} {g : Chosen} {x : Staff} {y : Party} {l : Lead} {b : Bool}

theorem completionVerdicts (h : Touches s t) (r : RoomId) (size released : Nat) (places : Places) (staff i : Nat)
    (ms : List Member) : Touches s (t.completionVerdicts r size released places staff i ms) := by
  induction ms generalizing t i with
  | nil => exact h
  | cons m ms ih => exact ih (h.issue _) _

/-- The records of a completion have their places on the roll: that of the member of staff by the occupancy check, those of the
members by the bounds (05 R88). -/
theorem completion_fits (b : Bool) (party : Party) (place : b = true → s.noPlaceFor r 1 = none) (records goingIn : List Presence)
    (own : records.length = if b then 1 else 0)
    (count : goingIn.length ≤ (s.completionPlaces r x (if b then 1 else 0)).released party.members.length) :
    (s.roll ++ (records ++ goingIn)).length ≤ max s.roll.length Config.rollPlaces := by
  have bound : goingIn.length ≤ Config.rollPlaces - (s.roll.length + if b then 1 else 0) := by
    refine count.trans ?_
    simp only [State.completionPlaces, Places.released]
    omega
  simp only [List.length_append, own]
  cases b with
  | true =>
    have room := (State.noPlaceFor_eq_none.mp (place rfl)).2
    simp only [if_true] at bound ⊢
    omega
  | false =>
    simp only [Bool.false_eq_true, if_false] at bound ⊢
    omega

theorem completeByStaff (h : Touches s t) (b : Bool) (place : b = true → t.noPlaceFor r 1 = none) :
    Touches s (t.completeByStaff r p x y b) := by
  unfold State.completeByStaff
  dsimp only
  have added := h.addRecords r _ (completion_fits (x := x) b y place
    (if b then [t.staffPresence r p.credential] else [])
    ((y.members.take ((t.completionPlaces r x (if b then 1 else 0)).released y.members.length)).map
      fun m => t.memberPresence r m (some p.credential) none)
    (by cases b <;> rfl) (by simp [Places.released]))
  have led := Touches.clearWaitingElsewhere (Touches.openLead (foldl
    (op := fun t (m : Member) => t.grantNotice m.credential m.issueLevel) (fun t _ => (refl t).grantNotice _ _)
    (y.members.take ((t.completionPlaces r x (if b then 1 else 0)).released y.members.length)) added) r p.credential .entered
    p.issueLevel) r p.credential
  have released {u : State} {c : Prop} [Decidable c] (h : Touches s u) : Touches s (if c then u.release r .entry else u) :=
    ite (h.release r .entry) h
  have told {u : State} {c : Prop} [Decidable c] {v : Verdict} (h : Touches s u) : Touches s (if c then u.issue v else u) :=
    ite (h.issue v) h
  exact (told (released led)).completionVerdicts _ _ _ _ _ _ _

theorem staffCompletion (h : Touches s t) : Touches s (t.staffCompletion r p x y) := by
  unfold State.staffCompletion
  dsimp only
  split
  · exact ((h.clearSlot r).issue _).denyMembers _ _ _ _
  · next place =>
    refine h.completeByStaff _ fun outside => ?_
    rwa [if_pos outside] at place

theorem admitStaff (h : Touches s t) : Touches s (t.admitStaff r p b) := by
  unfold State.admitStaff
  split
  · exact h.issue _
  · next place =>
    have added := h.addChecked (records := [t.staffPresence r p.credential]) place
    exact (((ite (added.openLead _ _ _ _) added).clearWaitingElsewhere _ _).release _ _).issue _

theorem waitAsLead (h : Touches s t) : Touches s (t.waitAsLead r p) :=
  ((h.openLead _ _ _ _).clearWaitingElsewhere _ _).issue _

theorem decideStaffSlot (h : Touches s t) : Touches s (t.decideStaffSlot r p x) := by
  unfold State.decideStaffSlot
  split
  · exact h.staffCompletion
  · exact ite (ite h.admitStaff (h.issue _)) (ite h.admitStaff h.waitAsLead)
  · exact ite h.admitStaff h.waitAsLead

theorem decideStaff (h : Touches s t) : Touches s (t.decideStaff r p x) := by
  unfold State.decideStaff
  refine ite (h.issue _) (ite (h.issue _) (ite h.decideStaffSlot ?_))
  split
  · exact h.issue _
  · next passed => exact (h.passback passed).decideStaffSlot

theorem admitContractor (h : Touches s t) {e : Option Nat} : Touches s (t.admitContractor r p w g e) := by
  unfold State.admitContractor
  split
  · exact h.issue _
  · next place =>
    exact ((((h.addChecked (records := [t.presenterPresence r p w g e none]) place).grantNotice _ _).leaveOtherParty _ _).release
      _ _).issue _

theorem completePair (h : Touches s t) {m : Member} {size : Nat} : Touches s (t.completePair r p w g m size) := by
  unfold State.completePair
  split
  · exact ((h.clearSlot r).issue _).issue _
  · next place =>
    exact ((((((((h.addChecked (records := [t.memberPresence r m none (some p.credential),
      t.presenterPresence r p w g none (some m.credential)]) place).grantNotice _ _).grantNotice _ _).clearSlot
      r).leaveOtherParty _ _).release _ _).issue _).issue _)

theorem joinPair (h : Touches s t) : Touches s (t.joinPair r p w g y) := by
  unfold State.joinPair
  split
  · exact h.completePair
  · exact h

/-- A contractor who starts or joins a party: the slot, the party elsewhere, and the PENDING verdict. -/
theorem pendingAt (h : Touches s t) (z : Slot) (law : (t.slot r).sound → z.sound) (size : Nat) :
    Touches s (((t.setSlot r z).leaveOtherParty r p.credential).issuePending r p w g size) :=
  ((h.setSlot r z law).leaveOtherParty _ _).issue _

theorem joinParty (h : Touches s t) : Touches s (t.joinParty r p w g y) := by
  unfold State.joinParty
  split
  · next staff =>
    split
    · next place =>
      refine h.pendingAt (.party { y with members := y.members ++ [memberOf p w g] }) (fun _ => ⟨by simp, ?_, fun other => absurd staff other⟩) _
      simp only [List.length_append, List.length_singleton]
      omega
    · exact h.issue _
  · exact ite h.joinPair (h.issue _)

theorem partyHandling (h : Touches s t) : Touches s (t.partyHandling r p w g) := by
  unfold State.partyHandling
  split
  · exact h.joinParty
  · exact h.pendingAt (.party ⟨if g.rule = .pair then .pair w.company else .staff, [memberOf p w g], t.startWindow⟩)
      (fun _ => ⟨by simp, by simp [Config.partyPlaces], by simp⟩) 1

theorem completeLead (h : Touches s t) : Touches s (t.completeLead r p w g l) := by
  unfold State.completeLead
  split
  · exact h.issue _
  · next place =>
    exact ((((((((h.addChecked (records := [t.staffPresence r l.staff, t.presenterPresence r p w g (some l.staff) none])
      place).grantNotice _ _).leaveOtherParty _ _).openLead _ _ _ _).clearWaitingElsewhere _ _).release _ _).issue _).issue _)

theorem meetLead (h : Touches s t) : Touches s (t.meetLead r p w g l) := by
  unfold State.meetLead
  split
  · exact h.partyHandling
  · refine ite h.partyHandling ?_
    split
    · exact h.completeLead
    · exact ite h.admitContractor h.partyHandling

theorem escortHandling (h : Touches s t) : Touches s (t.escortHandling r p w g) := by
  unfold State.escortHandling
  split
  · split
    · exact ite h.joinPair h.admitContractor
    · exact h.admitContractor
  · split
    · exact h.meetLead
    · exact h.partyHandling

theorem decideContractor (h : Touches s t) : Touches s (t.decideContractor r p w) := by
  unfold State.decideContractor
  split
  · exact h.issue _
  · split
    · exact h.issue _
    · split
      · exact Touches.raise (h.issue _) _ _ _ _
      · split
        · split
          · exact h.issue _
          · exact h.issue _
        · split
          · exact h.issue _
          · next passed => exact (h.passback passed).escortHandling

end

theorem decideEntry (h : Touches s t) : Touches s (t.decideEntry r p) := by
  unfold State.decideEntry
  refine ite (h.issue _) (ite (h.issue _) ?_)
  split
  · exact h.decideStaff
  · split
    · exact h.decideContractor
    · exact h.issue _

theorem takeOffRoll (h : Touches s t) : Touches s (t.takeOffRoll r c).1 := by
  unfold State.takeOffRoll
  split
  · exact h
  · split
    · exact h.depart _ _
    · exact Touches.setRollState (h.depart _ _) _ _

theorem decideExit (h : Touches s t) : Touches s (t.decideExit r p) := (h.takeOffRoll.release _ _).issue _

theorem decideCheckIn (h : Touches s t) : Touches s (t.decideCheckIn r p) :=
  ite ((h.changeRecord _ _).issue _) (h.issue _)

theorem unassignedReader (h : Touches s t) : Touches s (t.unassignedReader p) := by
  unfold State.unassignedReader
  split
  · exact h.offerRoutine _
  · exact h

theorem screen (h : Touches s t) : Touches s (t.screen p) := by
  unfold State.screen
  split
  · exact ite h.decideEntry (h.issue _)
  · refine ite ?_ ((h.release _ _).issue _)
    split
    · exact h.decideExit
    · exact h.decideCheckIn
  · exact ite h.unassignedReader (h.issue _)

theorem present (h : Touches s t) (p : Presentation) : Touches s (t.present p) := ite h (h.then_ (.seen _)).screen

/-! ### The Field Port (08) -/

section
variable {cause : CarryCause}

theorem chooseStation (h : Touches s t) : Touches s t.chooseStation := h.then_ (.port _ le_rfl)

theorem endVisit (h : Touches s t) : Touches s t.endVisit :=
  (h.then_ (.port { t.field with visit := none } le_rfl)).chooseStation

theorem deliverCarry (h : Touches s t) : Touches s t.deliverCarry := h.then_ (.port _ (List.length_filter_le _ _))

theorem failRiding (h : Touches s t) (cause : CarryCause) : Touches s (t.failRiding cause) := by
  unfold State.failRiding
  split
  · exact h.deliverCarry.offerRoutine _
  · exact h

theorem failStation (h : Touches s t) (a : StationId) : Touches s (t.failStation a) :=
  foldl (fun t _ => (refl t).offerRoutine _) _ (h.then_ (.port _ (List.length_filter_le _ _)))

theorem markRiding_length (a : StationId) (l : List CarryItem) : (markRiding a l).length = l.length := by
  induction l with
  | nil => rfl
  | cons i l ih =>
    unfold markRiding
    split
    · rfl
    · simp [ih]

theorem sendVisit (h : Touches s t) (a : StationId) : Touches s (t.sendVisit a) :=
  h.then_ (.port _ (markRiding_length a _).le)

theorem tellDoor {notice : State → RoomId → State} (h : Touches s t) (told : ∀ r, Touches s (notice t r)) :
    Touches s (t.tellDoor a notice) := by
  unfold State.tellDoor
  split
  · exact told _
  · exact h

/-- The count goes up by one below 3, and at 3 the station is OFFLINE (08 R150). -/
theorem countMiss (h : Touches s t) (a : StationId) (cause : CarryCause) : Touches s (t.countMiss a cause) := by
  unfold State.countMiss
  dsimp only
  split
  · next below =>
    refine h.then_ (.station a _ fun sound => ?_)
    obtain ⟨-, offline⟩ := sound
    refine ⟨below.le, ?_⟩
    rw [offline]
    simp only
    omega
  · split
    · have lost := h.then_ (.station a { online := .offline, missed := Config.missesToOffline } fun _ => ⟨le_rfl, by simp⟩)
      exact (lost.raise _ _ _ _).tellDoor fun r => (lost.raise _ _ _ _).driverOffline r
    · exact h

theorem visitFailed (h : Touches s t) (a : StationId) (cause : CarryCause) : Touches s (t.visitFailed a cause) :=
  ((h.countMiss a cause).failRiding cause).endVisit

theorem stationAnswered (h : Touches s t) (a : StationId) : Touches s (t.stationAnswered a) := by
  have online := h.then_ (.station a { online := .online, missed := 0 } fun _ => ⟨by simp, by simp [Config.missesToOffline]⟩)
  unfold State.stationAnswered
  dsimp only
  split
  · exact (online.raise _ _ _ _).tellDoor fun r => (online.raise _ _ _ _).driverOnline r
  · exact online

theorem takeBody (h : Touches s t) (a : StationId) (body : ReplyBody) : Touches s (t.takeBody a body) := by
  cases body with
  | nothing => exact h
  | presentation => exact h.present _
  | events list => exact h.tellDoor (notice := fun t r => t.driverEvents r list) fun r => h.driverEvents r list

theorem takeCarryUp (h : Touches s t) (a : StationId) (payload : Option (List Byte)) : Touches s (t.takeCarryUp a payload) := by
  cases payload with
  | none => exact h
  | some => exact h.offerRoutine _

theorem replyTaken (h : Touches s t) (a : StationId) (reply : FieldReply) : Touches s (t.replyTaken a reply) :=
  ((((h.stationAnswered a).deliverCarry).takeBody a _).takeCarryUp a _).endVisit

theorem replyMissed (h : Touches s t) (visit : Visit) : Touches s (t.replyMissed visit) :=
  (h.advance _).visitFailed _ _

theorem frameEnded (h : Touches s t) (visit : Visit) (moment : Nat) (j : Judgement) :
    Touches s (t.frameEnded visit moment j) := by
  have ended := h.advance moment
  cases j with
  | unfinished => exact h
  | ignored => exact ite (ended.visitFailed _ _) ended
  | bad => exact ended.visitFailed _ _
  | good => exact ended.replyTaken _ _

theorem disableStation (h : Touches s t) (a : StationId) : Touches s (t.disableStation a) := by
  unfold State.disableStation
  dsimp only
  split
  · exact ite (h.failStation a).endVisit (h.failStation a)
  · exact ite (h.failStation a).chooseStation (h.failStation a)

theorem enableStation (h : Touches s t) : Touches s t.enableStation := ite h.chooseStation h

end

/-! ### The tables and the rooms (01, 03) -/

theorem withdrawAt (h : Touches s t) (r : RoomId) (c : Nat) (reason : Reason) : Touches s (t.withdrawAt r c reason) := by
  unfold State.withdrawAt
  split
  · split
    · exact (h.setSlot r _ fun sound => Slot.without_sound sound c).issue _
    · exact h
  · exact h

theorem withdraw (h : Touches s t) (c : Nat) (x : PermitState) : Touches s (t.withdraw c x) :=
  (foldl (fun t _ => (refl t).withdrawAt _ _ _) allRooms h).withdrawInside c x

theorem cancelEntry (h : Touches s t) (r : RoomId) : Touches s (t.cancelEntry r) := by
  unfold State.cancelEntry
  split
  · split
    · exact h.cancelProgram r
    · exact h
  · exact h

theorem lockSlot (h : Touches s t) (r : RoomId) : Touches s (t.lockSlot r) := by
  unfold State.lockSlot
  split
  · exact (foldl (fun t _ => (refl t).offerRoutine _) _ h).clearSlot r
  · exact h.clearSlot r
  · exact h

theorem holdSlot (h : Touches s t) (r : RoomId) : Touches s (t.holdSlot r) := by
  unfold State.holdSlot
  split
  · exact h.breakSlot r _
  · exact h

theorem reconcile (h : Touches s t) (r : RoomId) (named : List Nat) : Touches s (t.reconcile r named) :=
  Touches.setRollState (h.depart _ _) _ _

end Touches

end Sys2Proof.Machine

/-! PROOF. What a chain of small changes keeps, and the invariants of Safety that rest on it: the stations, the doors, the people
and the report queues. -/

namespace Sys2Proof.Machine

set_option Elab.async false

/-! ## The report queues (10 R171 to R174) -/

/-- A waiting alarm keeps its key when it takes one of that key in. -/
theorem Alarm.absorb_key {a b : Alarm} (h : b.key = a.key) : (b.absorb a).key = b.key := by
  simp only [Alarm.key, Prod.mk.injEq] at h
  simp [Alarm.key, Alarm.absorb, h.1]

theorem Reports.offerAlarm_keys {q : Reports} (a : Alarm) (h : (q.alarms.map Alarm.key).Nodup) :
    ((q.offerAlarm a).alarms.map Alarm.key).Nodup := by
  obtain ⟨-, eq⟩ | ⟨new, -, eq⟩ | ⟨-, -, eq⟩ := q.offerAlarm_cases a
  · rw [eq, List.map_map]
    refine (List.map_congr_left fun b _ => ?_ : q.alarms.map _ = q.alarms.map Alarm.key) ▸ h
    by_cases same : b.key = a.key
    · simp [same, Alarm.absorb_key same]
    · simp [same]
  · rw [eq, List.map_append, List.map_singleton, List.nodup_append]
    refine ⟨h, by simp, fun k hk l hl => ?_⟩
    obtain rfl := List.mem_singleton.mp hl
    obtain ⟨b, hb, rfl⟩ := List.mem_map.mp hk
    simpa using List.any_eq_false.mp new b hb
  · rw [eq]
    exact h

theorem Reports.offerAlarm_sound {q : Reports} (a : Alarm) (h : q.sound) : (q.offerAlarm a).sound := by
  have keys := Reports.offerAlarm_keys a h.keys
  obtain ⟨-, eq⟩ | ⟨-, place, eq⟩ | ⟨-, -, eq⟩ := q.offerAlarm_cases a
  · rw [eq] at keys ⊢
    exact ⟨by simpa using h.alarms, keys, h.answers, h.routine, h.discards⟩
  · rw [eq] at keys ⊢
    exact ⟨by simpa using place, keys, h.answers, h.routine, h.discards⟩
  · rw [eq]
    exact ⟨h.alarms, h.keys, h.answers, h.routine, h.discards⟩

theorem Reports.offerRoutine_sound {q : Reports} (i : RoutineItem) (h : q.sound) : (q.offerRoutine i).sound := by
  obtain ⟨place, eq⟩ | ⟨-, eq⟩ := q.offerRoutine_cases i
  · rw [eq]
    exact ⟨h.alarms, h.keys, h.answers, by simpa using place, h.discards⟩
  · rw [eq]
    exact ⟨h.alarms, h.keys, h.answers, h.routine, countUp_le _⟩

@[simp] theorem Reports.offerAlarm_answers (q : Reports) (a : Alarm) : (q.offerAlarm a).answers = q.answers := by
  obtain ⟨-, eq⟩ | ⟨-, -, eq⟩ | ⟨-, -, eq⟩ := q.offerAlarm_cases a <;> rw [eq]

@[simp] theorem Reports.offerAlarm_routine (q : Reports) (a : Alarm) : (q.offerAlarm a).routine = q.routine := by
  obtain ⟨-, eq⟩ | ⟨-, -, eq⟩ | ⟨-, -, eq⟩ := q.offerAlarm_cases a <;> rw [eq]

@[simp] theorem Reports.offerAlarm_discards (q : Reports) (a : Alarm) : (q.offerAlarm a).discards = q.discards := by
  obtain ⟨-, eq⟩ | ⟨-, -, eq⟩ | ⟨-, -, eq⟩ := q.offerAlarm_cases a <;> rw [eq]

@[simp] theorem Reports.offerRoutine_answers (q : Reports) (i : RoutineItem) : (q.offerRoutine i).answers = q.answers := by
  obtain ⟨-, eq⟩ | ⟨-, eq⟩ := q.offerRoutine_cases i <;> rw [eq]

@[simp] theorem Reports.offerRoutine_alarms (q : Reports) (i : RoutineItem) : (q.offerRoutine i).alarms = q.alarms := by
  obtain ⟨-, eq⟩ | ⟨-, eq⟩ := q.offerRoutine_cases i <;> rw [eq]

/-! ## One entry of a table set -/

theorem State.setRoom_room (s : State) (i j : RoomId) (x : RoomState) :
    (s.setRoom i x).room j = if i = j then x else s.room j := look_put _ _ _ _

theorem State.setSlot_slot (s : State) (i j : RoomId) (x : Slot) :
    (s.setSlot i x).slot j = if i = j then x else s.slot j := look_put _ _ _ _

theorem State.setDoor_door (s : State) (i j : RoomId) (x : Door) :
    (s.setDoor i x).door j = if i = j then x else s.door j := look_put _ _ _ _

theorem State.setStation_station (s : State) (i j : StationId) (x : StationState) :
    (s.setStation i x).station j = if i = j then x else s.station j := look_put _ _ _ _

/-! ## What a chain of small changes keeps -/

namespace Touches

variable {s t : State}

/-- A property that each small change keeps is kept by a chain of them. -/
theorem keeping {P : State → Prop} (one : ∀ {s t}, Touch s t → P s → P t) (h : Touches s t) (start : P s) : P t := by
  induction h with
  | refl => exact start
  | tail _ change ih => exact one change ih

/-- The fields that a chain of small changes can touch. -/
theorem keeps (h : Touches s t) : Keeps visited s t :=
  h.keeping (P := Keeps visited s)
    (fun change k => k.trans (by
      cases change with
      | moment => exact (withNow_keeps _ _).mono
      | seen => exact (withLastSeen_keeps _ _).mono
      | alarm | routine => exact (withReports_keeps _ _).mono
      | room => exact (setRoom_keeps _ _ _).mono
      | door => exact (setDoor_keeps _ _ _).mono
      | station => exact (setStation_keeps _ _ _).mono
      | terms => exact (withPermits_keeps _ _).mono
      | roll => exact (withRoll_keeps _ _).mono
      | slots => exact (withSlots_keeps _ _).mono
      | port => exact (withField_keeps _ _).mono))
    (Keeps.refl _ s)

theorem modes (h : Touches s t) : ∀ r, (t.room r).mode = (s.room r).mode :=
  h.keeping (P := fun t => ∀ r, (t.room r).mode = (s.room r).mode)
    (fun change same r => by
      cases change with
      | room q x mode =>
        rw [State.setRoom_room]
        split
        · next e => exact e ▸ mode.trans (same q)
        · exact same r
      | _ => exact same r)
    fun _ => rfl

theorem stationsSound (h : Touches s t) (sound : s.stationsSound) : t.stationsSound :=
  h.keeping (fun change sound b => by
    cases change with
    | station a x law =>
      rw [State.setStation_station]
      split
      · exact law (sound a)
      · exact sound b
    | _ => exact sound b) sound

theorem doorsSound (h : Touches s t) (sound : s.doorsSound) : t.doorsSound :=
  h.keeping (fun change sound q => by
    cases change with
    | door r d law =>
      rw [State.setDoor_door]
      split
      · exact law (sound r)
      · exact sound q
    | _ => exact sound q) sound

theorem peopleSound (h : Touches s t) (sound : s.peopleSound) : t.peopleSound :=
  h.keeping (fun change sound => by
    obtain ⟨places, slots⟩ := sound
    cases change with
    | roll x fits => exact ⟨fits.trans (max_le places le_rfl), slots⟩
    | slots x law => exact ⟨places, law slots⟩
    | _ => exact ⟨places, slots⟩) sound

theorem reportsSound (h : Touches s t) (sound : s.reports.sound) : t.reports.sound :=
  h.keeping (P := fun t => t.reports.sound) (fun change sound => by
    cases change with
    | alarm a => exact Reports.offerAlarm_sound a sound
    | routine i => exact Reports.offerRoutine_sound i sound
    | _ => exact sound) sound

theorem answers (h : Touches s t) : t.reports.answers = s.reports.answers :=
  h.keeping (P := fun t => t.reports.answers = s.reports.answers) (fun change same => by
    cases change with
    | alarm a => exact (Reports.offerAlarm_answers _ a).trans same
    | routine i => exact (Reports.offerRoutine_answers _ i).trans same
    | _ => exact same) rfl

theorem carryDown_le (h : Touches s t) : t.field.carryDown.length ≤ s.field.carryDown.length :=
  h.keeping (P := fun t => t.field.carryDown.length ≤ s.field.carryDown.length) (fun change le => by
    cases change with
    | port x fits => exact fits.trans le
    | _ => exact le) le_rfl

end Touches

/-! ## The commands that are such chains -/

/-- The timers of the rooms and the commands of the field line. -/
def isChain : Instr → Bool
  | .trunkGapAbandon _ | .trunkFrameDiscarded _ | .visitSend _ | .visitTimeout | .fieldGapAbandon _ _ | .fieldFrame _ _ _
  | .heldTimerExpiry _ | .waitExpiry _ | .partyWindowExpiry _ | .leadWindowExpiry _ | .overlayExpiry _ _ => true
  | _ => false

section
variable {s t : State}

/-- A command that does a chain where the part runs, and nothing otherwise. -/
theorem Touches.next_ite {b : Prop} [Decidable b] {u : State} (h : b → Touches s u)
    (run : (Host.Outcome.next (if b then u else s) : Host.Outcome State Fault Refusal) = .next t) : Touches s t := by
  obtain rfl := Host.Outcome.next.inj run
  split
  · next hb => exact h hb
  · exact Touches.refl s

theorem Touches.exec {i : Instr} (chain : isChain i = true) (run : exec i s = .next t) : Touches s t := by
  have same := Touches.refl s
  cases i with
  | trunkGapAbandon | trunkFrameDiscarded =>
    obtain rfl := Host.Outcome.next.inj run
    exact same
  | visitSend =>
    refine Touches.next_ite (fun _ => ?_) run
    split
    · exact (same.advance _).sendVisit _
    · exact same
  | visitTimeout =>
    refine Touches.next_ite (fun _ => ?_) run
    split
    · exact same.replyMissed _
    · exact same
  | fieldGapAbandon =>
    refine Touches.next_ite (fun _ => ?_) run
    split
    · exact (same.advance _).visitFailed _ _
    · exact same
  | fieldFrame =>
    refine Touches.next_ite (fun _ => ?_) run
    split
    · exact same
    · exact Touches.ite (same.frameEnded _ _ _) (same.replyMissed _)
  | heldTimerExpiry r =>
    refine Touches.next_ite (fun opened => ?_) run
    have isOpen : (s.door r).state = .opened := by simpa using (Bool.and_eq_true_iff.mp opened).2
    split
    · exact (same.advance _).heldExpired isOpen _
    · exact same
  | waitExpiry r =>
    refine Touches.next_ite (fun _ => ?_) run
    split
    · exact (same.advance _).then_ (.door r _ (Door.afterWait_sound _ _))
    · exact same
  | partyWindowExpiry =>
    refine Touches.next_ite (fun _ => ?_) run
    split
    · exact (same.advance _).breakSlot _ _
    · exact same
  | leadWindowExpiry r =>
    refine Touches.next_ite (fun _ => ?_) run
    split
    · next l _ =>
      have cleared := (same.advance l.window.ends).clearSlot r
      dsimp only
      split
      · exact cleared
      · exact cleared.issue _
    · exact same
  | overlayExpiry r d =>
    refine Touches.next_ite (fun _ => ?_) run
    cases d with
    | entry =>
      dsimp only
      split
      · exact (same.advance _).then_ (.room r _ rfl)
      · exact same
    | exit =>
      dsimp only
      split
      · exact (same.advance _).then_ (.room r _ rfl)
      · exact same
  | _ => exact absurd chain (by simp [isChain])

end

/-! ## The requests that are such chains -/

theorem Touches.answered {s t : State} (h : Touches s t) (status : Status) (data : AnswerData) :
    Touches s (answered t status data).state := h

section
variable (q : Request) (s : State)

theorem suspendPermitRule_touches : Touches s (suspendPermitRule q s).state := by
  fun_cases suspendPermitRule
  case case3 => exact (((Touches.refl s).setPermitState _ _).withdraw _ _).answered _ _
  all_goals exact Touches.refl s

theorem revokePermitRule_touches : Touches s (revokePermitRule q s).state := by
  fun_cases revokePermitRule
  case case4 => exact (((Touches.refl s).setPermitState _ _).withdraw _ _).answered _ _
  all_goals exact Touches.refl s

theorem resumePermitRule_touches : Touches s (resumePermitRule q s).state := by
  fun_cases resumePermitRule
  case case4 => exact ((Touches.refl s).setPermitState _ _).answered _ _
  all_goals exact Touches.refl s

theorem reconcileRoomRule_touches : Touches s (reconcileRoomRule q s).state := by
  fun_cases reconcileRoomRule
  case case3 => exact ((Touches.refl s).reconcile _ _).answered _ _
  all_goals exact Touches.refl s

theorem cancelReleaseRule_touches : Touches s (cancelReleaseRule q s).state := by
  fun_cases cancelReleaseRule
  case case3 => exact ((Touches.refl s).cancelProgram _).answered _ _
  all_goals exact Touches.refl s

theorem resumeRoomRule_touches : Touches s (resumeRoomRule q s).state := by
  fun_cases resumeRoomRule
  case case4 r _ _ held =>
    have fault : (s.door r).state = .faultHold := by
      by_contra other
      exact held (.inl other)
    exact ((Touches.refl s).secureAgain (.inr fault)).answered _ _
  all_goals exact Touches.refl s

theorem remoteReleaseRule_touches : Touches s (remoteReleaseRule q s).state := by
  fun_cases remoteReleaseRule
  case case4 => exact ((Touches.refl s).release _ _).answered _ _
  all_goals exact Touches.refl s

end

end Sys2Proof.Machine

/-! PROOF. The invariants of the stations, the doors, the people, the queues and the clock through every step (O3, O4, O5, O6, O8),
and what each command may change (O11). -/

namespace Sys2Proof.Machine

set_option Elab.async false

/-! ## Steps, resets and requests -/

/-- A property without the model's queue that every command keeps is kept by every step. -/
theorem step_keeping {P : State → Prop} (queue : ∀ s l, P s → P { s with pending := l })
    (one : ∀ i s t, P s → exec i s = .next t → P t) (s t : State) (h : P s) (run : step s = .next t) : P t := by
  unfold step at run
  split at run
  · exact Host.Outcome.next.inj run ▸ h
  · exact one _ _ _ (queue _ _ h) run

/-- The two resets and the entry into RUNNING. -/
def isRenewal : Instr → Bool
  | .powerOnReset _ | .restartReset | .settingsLoadEnd _ _ => true
  | _ => false

/-- What a reset or the entry into RUNNING leaves: the state as it was, or one that a reset or the entry has renewed. -/
theorem renewal_keeping {P : State → Prop} {i : Instr} {s t : State} (renews : isRenewal i = true) (run : exec i s = .next t)
    (same : P s) (started : ∀ u kind, P (State.enterStarting u kind)) (entered : ∀ u, P (State.enterRunning u)) : P t := by
  cases i with
  | powerOnReset =>
    obtain rfl := Host.Outcome.next.inj run
    exact started _ _
  | restartReset =>
    obtain rfl := Host.Outcome.next.inj run
    split
    · exact started _ _
    · exact same
  | settingsLoadEnd =>
    obtain rfl := Host.Outcome.next.inj run
    split
    · exact entered _
    · exact same
  | _ => exact absurd renews (by simp [isRenewal])

theorem State.mayExecute_iff {s : State} :
    s.mayExecute = true ↔ s.phase = .running ∧ s.executor = .free ∧ s.reports.answers.length < Config.answerPlaces := by
  simp [State.mayExecute, State.isRunning, and_assoc]

/-- A property that the taking of a request, its rule and its answer keep is kept by the request. -/
theorem request_keeping {P : State → Prop} {isRow : Nat → Bool} {rule : Request → State → Executed} {s t : State}
    (run : (Host.Outcome.next (s.executeRequest isRow rule) : Host.Outcome State Fault Refusal) = .next t) (same : P s)
    (rules : ∀ q rest, P (rule q (s.taken rest)).state)
    (answers : ∀ u q status data, P u → P (State.answer u q status data)) : P t := by
  obtain rfl := Host.Outcome.next.inj run
  obtain eq | ⟨q, rest, -, -, -, ⟨_, _, -, eq⟩ | ⟨-, eq⟩⟩ := executeRequest_cases s isRow rule
  · rw [eq]
    exact same
  · rw [eq]
    exact answers _ _ _ _ (rules q rest)
  · rw [eq]
    exact rules q rest

/-! ## SET ROOM and SET ROOM MODE as chains -/

/-- A change of mode is a chain of small changes from the state with the new mode. -/
theorem State.changeMode_touches (s : State) (r : RoomId) (new : RoomMode) :
    Touches (s.setRoom r { s.room r with mode := new }) (s.changeMode r new) := by
  have same := Touches.refl (s.setRoom r { s.room r with mode := new })
  cases new with
  | locked => exact ((same.lockSlot r).cancelEntry r).then_ (.room r _ rfl)
  | contractorHold => exact Touches.ite (same.holdSlot r) same
  | normal => exact same

/-- A SET ROOM that is taken is a chain of small changes from the state with the new settings and a new entry of the room. -/
theorem State.applyRoom_touches (s : State) (r : RoomId) (new : RoomSettings) :
    ∃ x, Touches ((s.withSettings { s.settings with rooms := put s.settings.rooms r new }).setRoom r x) (s.applyRoom r new) := by
  have stored : ∃ x, Touches ((s.withSettings { s.settings with rooms := put s.settings.rooms r new }).setRoom r x)
      ((s.storeRoom r new).takeIdentity r (s.roomSettings r) new) := by
    have twice (t : State) (x y : RoomState) : Touches (t.setRoom r y) ((t.setRoom r x).setRoom r y) := by
      simpa [State.setRoom, State.withRooms, put_put] using Touches.refl (t.setRoom r y)
    unfold State.takeIdentity State.storeRoom
    split
    · split
      · exact ⟨_, (twice _ _ _).freshStart r⟩
      · split
        · exact ⟨_, (Touches.refl _).freshStart r⟩
        · exact ⟨_, Touches.refl _⟩
    · split
      · exact ⟨_, (twice _ _ _).closeDown r⟩
      · exact ⟨_, Touches.refl _⟩
  obtain ⟨x, stored⟩ := stored
  exact ⟨x, Touches.ite (stored.evaluateLone r) stored⟩

/-! ## The stations (O3) -/

theorem StationState.atReset_sound : StationState.atReset.sound := ⟨by decide, by decide⟩

theorem freshStations_sound (s : State) (h : s.stations = Vector.replicate 16 StationState.atReset) : s.stationsSound :=
  fun a => by
    rw [State.station, h, look_replicate]
    exact StationState.atReset_sound

theorem exec_stationsSound (i : Instr) (s t : State) (h : s.stationsSound) (run : exec i s = .next t) : t.stationsSound := by
  by_cases touched : Field.stations ∈ touchedBy i
  · cases i with
    | powerOnReset | restartReset | settingsLoadEnd =>
      exact renewal_keeping rfl run h (fun _ _ => freshStations_sound _ rfl) fun _ => freshStations_sound _ rfl
    | visitTimeout | fieldGapAbandon | fieldFrame => exact (Touches.exec rfl run).stationsSound h
    | _ => exact absurd touched (by simp [touchedBy])
  · have same : t.stations = s.stations := exec_keeps run .stations touched
    intro a
    rw [State.station, same]
    exact h a

/-- Settles O3: each command that counts replies is a chain of small changes that keep the count. -/
theorem stationsKeepTheirCount : Obligations.StationsKeepTheirCount :=
  step_keeping (fun _ _ h => h) exec_stationsSound

/-! ## The doors (O4) -/

theorem Door.atReset_sound : Door.atReset.sound :=
  Door.sound_of_idle rfl rfl rfl rfl (.inl rfl) rfl

theorem freshDoors_sound (s : State) (h : s.doors = Vector.replicate 6 Door.atReset) : s.doorsSound :=
  fun a => by
    rw [State.door, h, look_replicate]
    exact Door.atReset_sound

theorem exec_doorsSound (i : Instr) (s t : State) (h : s.doorsSound) (run : exec i s = .next t) : t.doorsSound := by
  by_cases touched : Field.doors ∈ touchedBy i
  · have answered (u : State) (q : Request) (status : Status) (data : AnswerData) (h : u.doorsSound) :
        (u.answer q status data).doorsSound := h
    cases i with
    | powerOnReset | restartReset | settingsLoadEnd =>
      exact renewal_keeping rfl run h (fun _ _ => freshDoors_sound _ rfl) fun _ => freshDoors_sound _ rfl
    | setRoom =>
      refine request_keeping run h (fun q rest => ?_) answered
      fun_cases setRoomRule
      case case4 r new _ _ _ _ =>
        obtain ⟨x, chain⟩ := (s.taken rest).applyRoom_touches r new
        exact chain.doorsSound h
      all_goals exact h
    | setRoomMode =>
      refine request_keeping run h (fun q rest => ?_) answered
      fun_cases setRoomModeRule
      case case4 r new _ _ _ _ => exact ((s.taken rest).changeMode_touches r new).doorsSound h
      all_goals exact h
    | cancelRelease =>
      exact request_keeping run h (fun q rest => (cancelReleaseRule_touches q _).doorsSound h) answered
    | resumeRoom => exact request_keeping run h (fun q rest => (resumeRoomRule_touches q _).doorsSound h) answered
    | remoteRelease => exact request_keeping run h (fun q rest => (remoteReleaseRule_touches q _).doorsSound h) answered
    | visitTimeout | fieldGapAbandon | fieldFrame | heldTimerExpiry | waitExpiry =>
      exact (Touches.exec rfl run).doorsSound h
    | _ => exact absurd touched (by simp [touchedBy])
  · have same : t.doors = s.doors := exec_keeps run .doors touched
    intro a
    rw [State.door, same]
    exact h a

/-- Settles O4: each operation of Door Control gives a door whose law holds, where it held before. -/
theorem doorsKeepTheirLaw : Obligations.DoorsKeepTheirLaw :=
  step_keeping (fun _ _ h => h) exec_doorsSound

/-! ## The people (O8) -/

theorem State.peopleSound.of_same {s t : State} (h : s.peopleSound) (roll : t.roll = s.roll) (slots : t.slots = s.slots) :
    t.peopleSound :=
  ⟨roll ▸ h.roll, fun r => by
    rw [State.slot, slots]
    exact h.slots r⟩

theorem freshPeople_sound (s : State) (roll : s.roll = []) (slots : s.slots = Vector.replicate 6 .empty) : s.peopleSound :=
  ⟨by simp [roll], fun r => by
    rw [State.slot, slots, look_replicate]
    trivial⟩

theorem exec_peopleSound (i : Instr) (s t : State) (h : s.peopleSound) (run : exec i s = .next t) : t.peopleSound := by
  by_cases touched : Field.roll ∈ touchedBy i ∨ Field.slots ∈ touchedBy i
  · have answered (u : State) (q : Request) (status : Status) (data : AnswerData) (h : u.peopleSound) :
        (u.answer q status data).peopleSound := h.of_same rfl rfl
    have took (rest : List Request) : (s.taken rest).peopleSound := h.of_same rfl rfl
    cases i with
    | powerOnReset | restartReset | settingsLoadEnd =>
      exact renewal_keeping rfl run h (fun _ _ => freshPeople_sound _ rfl rfl) fun _ => freshPeople_sound _ rfl rfl
    | suspendPermit =>
      exact request_keeping run h (fun q rest => (suspendPermitRule_touches q _).peopleSound (took rest)) answered
    | revokePermit =>
      exact request_keeping run h (fun q rest => (revokePermitRule_touches q _).peopleSound (took rest)) answered
    | reconcileRoom =>
      exact request_keeping run h (fun q rest => (reconcileRoomRule_touches q _).peopleSound (took rest)) answered
    | setRoom =>
      refine request_keeping run h (fun q rest => ?_) answered
      fun_cases setRoomRule
      case case4 r new _ _ _ _ =>
        obtain ⟨x, chain⟩ := (s.taken rest).applyRoom_touches r new
        exact chain.peopleSound (h.of_same rfl rfl)
      all_goals exact took rest
    | setRoomMode =>
      refine request_keeping run h (fun q rest => ?_) answered
      fun_cases setRoomModeRule
      case case4 r new _ _ _ _ =>
        exact ((s.taken rest).changeMode_touches r new).peopleSound (h.of_same rfl rfl)
      all_goals exact took rest
    | secondTick staleFirst =>
      obtain rfl := Host.Outcome.next.inj run
      have stale (u : State) (h : u.peopleSound) : u.staleness.peopleSound :=
        h.of_same ((staleness_keeps u) .roll (by decide)) ((staleness_keeps u) .slots (by decide))
      have counted (c : Clock) : ((s.advance s.clock.nextCount).withClock c).peopleSound := h.of_same rfl rfl
      split
      · dsimp only
        split
        · unfold State.minuteEvent
          split
          · exact ((Touches.refl _).rollMinute _).peopleSound (stale _ (counted _))
          · exact stale _ (((Touches.refl _).rollMinute _).peopleSound (counted _))
        · exact counted _
      · exact h
    | visitTimeout | fieldGapAbandon | fieldFrame | partyWindowExpiry | leadWindowExpiry =>
      exact (Touches.exec rfl run).peopleSound h
    | _ => exact absurd touched (by simp [touchedBy])
  · obtain ⟨roll, slots⟩ := not_or.mp touched
    exact h.of_same (exec_keeps run .roll roll) (exec_keeps run .slots slots)

/-- Settles O8: records enter the roll behind an occupancy check, and a party grows behind the check of its places. -/
theorem peopleKeepTheirBounds : Obligations.PeopleKeepTheirBounds :=
  step_keeping (fun _ _ h => h.of_same rfl rfl) exec_peopleSound

end Sys2Proof.Machine

/-! PROOF. The queues and the clock through every step (O5, O6), and what each command may change (O11). -/

namespace Sys2Proof.Machine

set_option Elab.async false

/-! ## The queues (O5) -/

namespace State.queuesSound

variable {s t : State}

theorem of_same (h : s.queuesSound) (reports : t.reports = s.reports) (trunk : t.trunk = s.trunk)
    (field : t.field = s.field) (executor : t.executor = s.executor) : t.queuesSound :=
  ⟨reports ▸ h.reports, trunk ▸ h.commands, trunk ▸ h.refusals, field ▸ h.carry, by
    rw [executor, reports]
    exact h.savePlace⟩

/-- A change of the reports that leaves the answers keeps the bounds. -/
theorem withReports (h : s.queuesSound) {q : Reports} (sound : q.sound) (answers : q.answers = s.reports.answers) :
    (s.withReports q).queuesSound :=
  ⟨sound, h.commands, h.refusals, h.carry, fun saving => by
    have place := h.savePlace saving
    simpa [answers] using place⟩

theorem withTrunk (h : s.queuesSound) {x : TrunkPort} (commands : x.commands.length ≤ Config.commandPlaces)
    (refusals : x.refusals ≤ Config.countCeiling) : (s.withTrunk x).queuesSound :=
  ⟨h.reports, commands, refusals, h.carry, h.savePlace⟩

theorem withExecutor (h : s.queuesSound) {x : Executor}
    (place : x.isSaving = true → s.reports.answers.length < Config.answerPlaces) : (s.withExecutor x).queuesSound :=
  ⟨h.reports, h.commands, h.refusals, h.carry, place⟩

/-- An answer takes the free place it was kept for. -/
theorem answer (h : s.queuesSound) (q : Request) (status : Status) (data : AnswerData) (idle : s.executor.isSaving = false)
    (place : s.reports.answers.length < Config.answerPlaces) : (s.answer q status data).queuesSound := by
  obtain ⟨alarms, keys, -, routine, discards⟩ := h.reports
  refine ⟨⟨alarms, keys, ?_, routine, discards⟩, h.commands, h.refusals, h.carry, fun saving => ?_⟩
  · simpa [State.answer] using place
  · exact (Bool.false_ne_true (idle.symm.trans saving)).elim

end State.queuesSound

theorem Touches.queuesSound {s t : State} (chain : Touches s t) (h : s.queuesSound) : t.queuesSound := by
  have trunk : t.trunk = s.trunk := chain.keeps .trunk (by decide)
  have executor : t.executor = s.executor := chain.keeps .executor (by decide)
  exact ⟨chain.reportsSound h.reports, trunk ▸ h.commands, trunk ▸ h.refusals, chain.carryDown_le.trans h.carry, by
    rw [executor, chain.answers]
    exact h.savePlace⟩

theorem Reports.atReset_sound : Reports.atReset.sound := ⟨by decide, by decide, by decide, by decide, by decide⟩

/-- The bounds that a rule keeps where the executor is free and an answer has a place: of the queues, of the place itself, and that
a write begins only where the request is held without an answer. -/
def RuleKeepsQueues (rule : Request → State → Executed) : Prop :=
  ∀ q u, State.queuesSound u → u.executor = .free → u.reports.answers.length < Config.answerPlaces →
    (rule q u).state.queuesSound ∧
      ((rule q u).answer.isSome = true →
        (rule q u).state.executor.isSaving = false ∧
          (rule q u).state.reports.answers.length < Config.answerPlaces)

theorem request_queuesSound {isRow : Nat → Bool} {rule : Request → State → Executed} {s t : State}
    (run : (Host.Outcome.next (s.executeRequest isRow rule) : Host.Outcome State Fault Refusal) = .next t)
    (h : s.queuesSound) (rules : RuleKeepsQueues rule) : t.queuesSound := by
  obtain rfl := Host.Outcome.next.inj run
  obtain eq | ⟨q, rest, may, head, -, result⟩ := executeRequest_cases s isRow rule
  · rw [eq]
    exact h
  · obtain ⟨-, free, place⟩ := State.mayExecute_iff.mp may
    have fewer : rest.length ≤ Config.commandPlaces := by
      have all := h.commands
      rw [head, List.length_cons] at all
      omega
    obtain ⟨sound, room⟩ := rules q _ (h.withTrunk (x := { s.trunk with commands := rest }) fewer h.refusals) free place
    obtain ⟨status, data, some, eq⟩ | ⟨-, eq⟩ := result
    · rw [eq]
      obtain ⟨idle, place⟩ := room (by rw [some]; rfl)
      exact sound.answer _ _ _ idle place
    · rw [eq]
      exact sound

/-- A rule that leaves the executor and keeps the queues and the answers keeps the bounds. -/
theorem RuleKeepsQueues.of_kept {rule : Request → State → Executed}
    (kept : ∀ q u, State.queuesSound u → (rule q u).state.queuesSound ∧ (rule q u).state.executor = u.executor ∧
      (rule q u).state.reports.answers = u.reports.answers) : RuleKeepsQueues rule := by
  intro q u h free place
  obtain ⟨sound, executor, answers⟩ := kept q u h
  refine ⟨sound, fun _ => ⟨?_, ?_⟩⟩
  · rw [executor, free]
    rfl
  · rw [answers]
    exact place

/-- A rule of the tables, the settings and the doors alone keeps the bounds. -/
theorem RuleKeepsQueues.of_keeps {rule : Request → State → Executed} {fs : List Field}
    (keeps : ∀ q u, Keeps fs u (rule q u).state)
    (apart : Field.reports ∉ fs ∧ Field.trunk ∉ fs ∧ Field.field ∉ fs ∧ Field.executor ∉ fs := by decide) :
    RuleKeepsQueues rule := by
  obtain ⟨reports, trunk, field, executor⟩ := apart
  refine .of_kept fun q u h => ?_
  have sameReports : (rule q u).state.reports = u.reports := keeps q u .reports reports
  have sameExecutor : (rule q u).state.executor = u.executor := keeps q u .executor executor
  exact ⟨h.of_same sameReports (keeps q u .trunk trunk) (keeps q u .field field) sameExecutor, sameExecutor,
    congrArg Reports.answers sameReports⟩

/-- A rule that is a chain of small changes from a state with the same queues keeps the bounds. -/
theorem RuleKeepsQueues.of_touches {rule : Request → State → Executed}
    (chain : ∀ q u, ∃ v : State, Touches v (rule q u).state ∧ v.reports = u.reports ∧ v.trunk = u.trunk ∧
      v.field = u.field ∧ v.executor = u.executor) : RuleKeepsQueues rule := by
  refine .of_kept fun q u h => ?_
  obtain ⟨v, touches, reports, trunk, field, executor⟩ := chain q u
  have same : (rule q u).state.executor = v.executor := touches.keeps .executor (by decide)
  exact ⟨touches.queuesSound (h.of_same reports trunk field executor), same.trans executor,
    touches.answers.trans (congrArg Reports.answers reports)⟩

theorem setRoomRule_queues : RuleKeepsQueues setRoomRule := by
  refine .of_touches fun q u => ?_
  fun_cases setRoomRule
  case case4 r new _ _ _ _ =>
    obtain ⟨x, chain⟩ := u.applyRoom_touches r new
    exact ⟨_, chain, rfl, rfl, rfl, rfl⟩
  all_goals exact ⟨u, Touches.refl u, rfl, rfl, rfl, rfl⟩

theorem setRoomModeRule_queues : RuleKeepsQueues setRoomModeRule := by
  refine .of_touches fun q u => ?_
  fun_cases setRoomModeRule
  case case4 r new _ _ _ _ => exact ⟨_, u.changeMode_touches r new, rfl, rfl, rfl, rfl⟩
  all_goals exact ⟨u, Touches.refl u, rfl, rfl, rfl, rfl⟩

theorem setStationRule_queues : RuleKeepsQueues setStationRule := by
  refine .of_touches fun q u => ?_
  fun_cases setStationRule
  case case3 a new speed _ _ _ _ =>
    exact ⟨u.writeStation a new speed,
      Touches.ite (Touches.refl _).enableStation ((Touches.refl _).disableStation a), rfl, rfl, rfl, rfl⟩
  all_goals exact ⟨u, Touches.refl u, rfl, rfl, rfl, rfl⟩

theorem carryRule_queues : RuleKeepsQueues carryRule := by
  refine .of_kept fun q u h => ?_
  fun_cases carryRule
  case case4 place _ s1 =>
    refine ⟨⟨h.reports, h.commands, h.refusals, ?_, h.savePlace⟩, rfl, rfl⟩
    simpa [s1] using Nat.lt_of_not_le place
  all_goals exact ⟨h, rfl, rfl⟩

theorem readStatusRule_queues : RuleKeepsQueues readStatusRule := by
  refine .of_kept fun q u h => ?_
  obtain ⟨alarms, keys, answers, routine, discards⟩ := h.reports
  fun_cases readStatusRule
  · exact ⟨h, rfl, rfl⟩
  · exact ⟨h.withReports ⟨alarms, keys, answers, routine, discards⟩ rfl, rfl, rfl⟩

theorem saveSettingsRule_queues (x : Bool) : RuleKeepsQueues (saveSettingsRule x) := by
  intro q u h free place
  have idle : u.executor.isSaving = false := by rw [free]; rfl
  fun_cases saveSettingsRule
  case case2 => exact ⟨h.withExecutor fun _ => place, nofun⟩
  all_goals exact ⟨h, fun _ => ⟨idle, place⟩⟩

theorem restartRule_queues : RuleKeepsQueues restartRule := by
  intro q u h free place
  have idle : u.executor.isSaving = false := by rw [free]; rfl
  fun_cases restartRule
  · exact ⟨h, fun _ => ⟨idle, place⟩⟩
  · exact ⟨h.withExecutor nofun, fun _ => ⟨rfl, place⟩⟩

theorem assignAddressRule_queues : RuleKeepsQueues assignAddressRule := by
  refine .of_kept fun q u h => ?_
  fun_cases assignAddressRule
  case case3 => exact ⟨h.withTrunk h.commands h.refusals, rfl, rfl⟩
  all_goals exact ⟨h, rfl, rfl⟩

/-- What the arbiter leaves is shorter, and keeps every bound (10 R169). -/
theorem Reports.choose_sound {q : Reports} (h : q.sound) (hold : Bool) :
    (q.choose hold).2.sound ∧ (q.choose hold).2.answers.length ≤ q.answers.length := by
  obtain ⟨alarms, keys, answers, routine, discards⟩ := h
  fun_cases Reports.choose
  case case1 a rest eq =>
    rw [eq] at alarms keys
    exact ⟨⟨(Nat.le_succ _).trans alarms, (List.nodup_cons.mp keys).2, answers, routine, discards⟩, le_rfl⟩
  case case2 a rest eq =>
    rw [eq] at answers
    exact ⟨⟨alarms, keys, (Nat.le_succ _).trans answers, routine, discards⟩, by simp [eq]⟩
  case case4 i rest eq =>
    rw [eq] at routine
    exact ⟨⟨alarms, keys, answers, (Nat.le_succ _).trans routine, discards⟩, le_rfl⟩
  all_goals exact ⟨⟨alarms, keys, answers, routine, discards⟩, le_rfl⟩

theorem State.restartSilence_queues {s : State} (h : s.queuesSound) : s.restartSilence.queuesSound :=
  h.withTrunk h.commands h.refusals

theorem State.silenced_queues {s : State} (h : s.queuesSound) (moment : Nat) :
    (s.withTrunk (s.trunk.fallSilent moment)).queuesSound := by
  unfold TrunkPort.fallSilent
  split
  · exact h.withTrunk h.commands h.refusals
  · exact h.withTrunk h.commands h.refusals

theorem State.offerCommand_queues {s : State} (h : s.queuesSound) (payload : List Byte) :
    (s.offerCommand payload).queuesSound := by
  fun_cases State.offerCommand
  case case1 => exact h.withTrunk (by simp; omega) h.refusals
  case case2 => exact h.withTrunk h.commands (countUp_le _)
  case case3 => exact h

theorem State.restoreLink_queues {s : State} (h : s.queuesSound) : s.restoreLink.queuesSound := by
  unfold State.restoreLink
  split
  · exact h
  · have online : (s.withTrunk { s.trunk with link := .online, silentSince := none }).queuesSound :=
      h.withTrunk h.commands h.refusals
    exact ((Touches.refl _).raise _ _ _ _).queuesSound online

theorem State.reply_queues {s : State} (h : s.queuesSound) (silent hold : Bool) : (s.reply silent hold).queuesSound := by
  obtain ⟨⟨alarms, keys, answers, routine, -⟩, fewer⟩ := Reports.choose_sound h.reports hold
  exact ⟨⟨alarms, keys, answers, routine, Nat.zero_le _⟩, h.commands, Nat.zero_le _, h.carry,
    fun saving => fewer.trans_lt (h.savePlace saving)⟩

theorem exec_queuesSound (i : Instr) (s t : State) (h : s.queuesSound) (run : exec i s = .next t) : t.queuesSound := by
  have advanced (moment : Nat) : (s.advance moment).queuesSound := h.of_same rfl rfl rfl rfl
  cases i with
  | powerOnReset | restartReset | settingsLoadEnd =>
    refine renewal_keeping rfl run h (fun u _ => ?_) fun u => ?_
    · exact ⟨Reports.atReset_sound, Nat.zero_le _, Nat.zero_le _, Nat.zero_le _, nofun⟩
    · exact ⟨Reports.offerAlarm_sound _ Reports.atReset_sound, Nat.zero_le _, Nat.zero_le _, Nat.zero_le _, nofun⟩
  | selfTestEnd | timeFrame =>
    have k := exec_keeps run
    exact h.of_same (k .reports (by simp [touchedBy])) (k .trunk (by simp [touchedBy])) (k .field (by simp [touchedBy]))
      (k .executor (by simp [touchedBy]))
  | commandFrame moment bytes =>
    obtain rfl := Host.Outcome.next.inj run
    split
    · exact State.offerCommand_queues (State.restartSilence_queues (advanced _)) _
    · exact h
  | poll moment bytes =>
    obtain rfl := Host.Outcome.next.inj run
    split
    · exact State.reply_queues (State.restoreLink_queues (State.restartSilence_queues (advanced _))) _ _
    · exact h
  | silenceTimerExpiry =>
    obtain rfl := Host.Outcome.next.inj run
    split
    · split
      · exact State.silenced_queues (advanced _) _
      · exact h
    · exact h
  | unknownRequest => exact request_queuesSound run h (.of_keeps (fs := []) fun _ u => Keeps.refl _ u)
  | loadPermit => exact request_queuesSound run h (.of_keeps loadPermitRule_keeps)
  | dropPermit => exact request_queuesSound run h (.of_keeps dropPermitRule_keeps)
  | resumePermit => exact request_queuesSound run h (.of_keeps resumePermitRule_keeps)
  | readPermit => exact request_queuesSound run h (.of_keeps readPermitRule_keeps)
  | purgePermits => exact request_queuesSound run h (.of_keeps purgePermitsRule_keeps)
  | loadEscort => exact request_queuesSound run h (.of_keeps loadEscortRule_keeps)
  | dropEscort => exact request_queuesSound run h (.of_keeps dropEscortRule_keeps)
  | readEscort => exact request_queuesSound run h (.of_keeps readEscortRule_keeps)
  | clearTables => exact request_queuesSound run h (.of_keeps clearTablesRule_keeps)
  | readRoom => exact request_queuesSound run h (.of_keeps readRoomRule_keeps)
  | setProgram => exact request_queuesSound run h (.of_keeps setProgramRule_keeps)
  | cancelRelease => exact request_queuesSound run h (.of_keeps cancelReleaseRule_keeps)
  | resumeRoom => exact request_queuesSound run h (.of_keeps resumeRoomRule_keeps)
  | remoteRelease => exact request_queuesSound run h (.of_keeps remoteReleaseRule_keeps)
  | setPart => exact request_queuesSound run h (.of_keeps setPartRule_keeps)
  | suspendPermit =>
    exact request_queuesSound run h (.of_touches fun q u => ⟨u, suspendPermitRule_touches q u, rfl, rfl, rfl, rfl⟩)
  | revokePermit =>
    exact request_queuesSound run h (.of_touches fun q u => ⟨u, revokePermitRule_touches q u, rfl, rfl, rfl, rfl⟩)
  | reconcileRoom =>
    exact request_queuesSound run h (.of_touches fun q u => ⟨u, reconcileRoomRule_touches q u, rfl, rfl, rfl, rfl⟩)
  | setRoom => exact request_queuesSound run h setRoomRule_queues
  | setRoomMode => exact request_queuesSound run h setRoomModeRule_queues
  | setStation => exact request_queuesSound run h setStationRule_queues
  | carry => exact request_queuesSound run h carryRule_queues
  | readStatus => exact request_queuesSound run h readStatusRule_queues
  | saveSettings x => exact request_queuesSound run h (saveSettingsRule_queues x)
  | restart => exact request_queuesSound run h restartRule_queues
  | assignAddress => exact request_queuesSound run h assignAddressRule_queues
  | saveWriteEnd moment outcome =>
    obtain rfl := Host.Outcome.next.inj run
    split
    · split
      · next tag copy saving =>
        have freed : (((s.advance moment).withMemory (writeEnd s.memory copy outcome).1).withExecutor .free).queuesSound :=
          ⟨h.reports, h.commands, h.refusals, h.carry, nofun⟩
        exact freed.answer _ _ _ rfl (h.savePlace (by rw [saving]; rfl))
      · exact h
    · exact h
  | secondTick staleFirst =>
    obtain rfl := Host.Outcome.next.inj run
    have stale (u : State) (h : u.queuesSound) : u.staleness.queuesSound := by
      have counted (c : Clock) : (u.withClock c).queuesSound := h.of_same rfl rfl rfl rfl
      unfold State.staleness
      dsimp only
      split
      · exact ((Touches.refl _).raise _ _ _ _).queuesSound (counted _)
      · exact counted _
    have counted (c : Clock) : ((s.advance s.clock.nextCount).withClock c).queuesSound := h.of_same rfl rfl rfl rfl
    split
    · dsimp only
      split
      · unfold State.minuteEvent
        split
        · exact ((Touches.refl _).rollMinute _).queuesSound (stale _ (counted _))
        · exact stale _ (((Touches.refl _).rollMinute _).queuesSound (counted _))
      · exact counted _
    · exact h
  | replySent moment =>
    obtain rfl := Host.Outcome.next.inj run
    split
    · split
      · next sent _ =>
        have released : ((s.advance moment).withTrunk { s.trunk with reply := none }).queuesSound :=
          (advanced _).withTrunk h.commands h.refusals
        dsimp only
        split
        · exact released.withExecutor nofun
        · exact released
      · exact h
    · exact h
  | powerLost cut =>
    obtain rfl := Host.Outcome.next.inj run
    have stopped : (s.withMemory (s.memoryAtCut cut)).queuesSound := h.of_same rfl rfl rfl rfl
    dsimp only
    split
    · exact (stopped.withExecutor (x := .free) nofun).of_same rfl rfl rfl rfl
    · exact stopped.of_same rfl rfl rfl rfl
  | _ => exact (Touches.exec rfl run).queuesSound h

/-- Settles O5: an item enters a queue behind the check of its places, and the executor begins a write only with a place for its
answer, which no other answer can take. -/
theorem queuesKeepTheirBounds : Obligations.QueuesKeepTheirBounds :=
  step_keeping (fun _ _ h => h.of_same rfl rfl rfl rfl) exec_queuesSound

/-! ## The clock (O6) -/

theorem Clock.atReset_sound (next : Nat) : (Clock.atReset next).sound :=
  ⟨Nat.zero_le _, Nat.zero_le _, Nat.zero_le _, by simp [Clock.atReset], by simp [Clock.atReset], by simp [Clock.atReset]⟩

theorem Clock.setTo_sound {minute second : Nat} (moment : Nat) (hm : minute ≤ Config.lastMinute) (hs : second ≤ 59) :
    (Clock.setTo minute second moment).sound :=
  ⟨hm, hs, Nat.zero_le _, by simp [Clock.setTo], by simp [Clock.setTo, Config.staleAfter], by simp [Clock.setTo]⟩

/-- What a TIME payload gives lies in the clock's ranges (02 R26). -/
theorem timeOf_ranges {payload : List Byte} {minute second : Nat} (h : timeOf payload = some (minute, second)) :
    minute ≤ Config.lastMinute ∧ second ≤ 59 := by
  unfold timeOf at h
  split at h
  · next five =>
    dsimp only at h
    split at h
    · next small =>
      obtain ⟨rfl, rfl⟩ := Prod.mk.inj (Option.some.inj h)
      have fits := numberOf_lt (payload.take 4)
      rw [List.length_take, five] at fits
      exact ⟨Nat.le_of_lt_succ fits, small⟩
    · cases h
  · cases h

theorem Clock.nextSecond_sound {c : Clock} (h : c.sound) (more : c.endsMinute = false) : c.nextSecond.sound := by
  obtain ⟨minute, second, since, unset, fresh, stale⟩ := h
  have less : c.second < 59 := by simpa [Clock.endsMinute] using more
  exact ⟨minute, less, since, unset, fresh, stale⟩

theorem Clock.nextMinute_sound {c : Clock} (h : c.sound) : c.nextMinute.sound := by
  obtain ⟨minute, second, since, unset, fresh, stale⟩ := h
  exact ⟨Nat.min_le_right _ _, Nat.zero_le _, since, unset, fresh, stale⟩

/-- The clock with one more minute since the last TIME frame (02 R29). -/
def Clock.aged (c : Clock) : Clock :=
  let count := min (c.sinceTime + 1) Config.sinceTimeCeiling
  { c with
    sinceTime := count
    timeState := if count = Config.staleAfter ∧ c.timeState = .set then .stale else c.timeState }

@[simp] theorem State.staleness_clock (s : State) : s.staleness.clock = s.clock.aged := by
  by_cases due : min (s.clock.sinceTime + 1) Config.sinceTimeCeiling = Config.staleAfter ∧ s.clock.timeState = .set
  · simp only [State.staleness, Clock.aged, if_pos due]
    rfl
  · simp only [State.staleness, Clock.aged, if_neg due]
    rfl

/-- The staleness check makes a SET time STALE exactly when its count reaches 1440 (02 R29). -/
theorem Clock.aged_sound {c : Clock} (h : c.sound) : c.aged.sound := by
  obtain ⟨minute, second, since, unset, fresh, stale⟩ := h
  simp only [Config.sinceTimeCeiling, Config.staleAfter] at since fresh stale
  by_cases due : min (c.sinceTime + 1) Config.sinceTimeCeiling = Config.staleAfter ∧ c.timeState = .set
  · simp only [Clock.aged, if_pos due]
    obtain ⟨count, isSet⟩ := due
    refine ⟨minute, second, Nat.min_le_right _ _, ?_, nofun, fun _ => count.ge⟩
    rw [isSet] at unset
    simpa using unset
  · simp only [Clock.aged, if_neg due]
    simp only [Config.sinceTimeCeiling, Config.staleAfter] at due
    refine ⟨minute, second, Nat.min_le_right _ _, unset, fun isSet => ?_, fun isStale => ?_⟩
    · have below := fresh isSet
      have notDue : min (c.sinceTime + 1) 65535 ≠ 1440 := fun e => due ⟨e, isSet⟩
      simp only [Config.sinceTimeCeiling, Config.staleAfter]
      omega
    · have above := stale isStale
      simp only [Config.sinceTimeCeiling, Config.staleAfter]
      omega

theorem exec_clockSound (i : Instr) (s t : State) (h : s.clock.sound) (run : exec i s = .next t) : t.clock.sound := by
  by_cases touched : Field.clock ∈ touchedBy i
  · cases i with
    | powerOnReset | restartReset | settingsLoadEnd =>
      exact renewal_keeping (P := fun t => t.clock.sound) rfl run h (fun _ _ => Clock.atReset_sound _)
        fun _ => Clock.atReset_sound _
    | timeFrame moment bytes =>
      obtain rfl := Host.Outcome.next.inj run
      split
      · split
        · next taken =>
          obtain ⟨hm, hs⟩ := timeOf_ranges taken
          exact Clock.setTo_sound _ hm hs
        · exact h
      · exact h
    | secondTick staleFirst =>
      obtain rfl := Host.Outcome.next.inj run
      have walked (u : State) (minute : Nat) (h : u.clock.sound) : (u.rollMinute minute).clock.sound := by
        have same : (u.rollMinute minute).clock = u.clock := rollMinute_keeps u minute .clock (by decide)
        exact same ▸ h
      split
      · dsimp only
        split
        · unfold State.minuteEvent
          split
          · exact walked _ _ (by simpa using Clock.aged_sound (Clock.nextMinute_sound h))
          · simpa using Clock.aged_sound (walked _ _ (Clock.nextMinute_sound h))
        · next more => exact Clock.nextSecond_sound h (by simpa using more)
      · exact h
    | _ => exact absurd touched (by simp [touchedBy])
  · have same : t.clock = s.clock := exec_keeps run .clock touched
    exact same ▸ h

/-- Settles O6: TIME frames carry values in range, and the count of the minutes since one moves the time state with it. -/
theorem clockKeepsItsRanges : Obligations.ClockKeepsItsRanges :=
  step_keeping (P := fun s => s.clock.sound) (fun _ _ h => h) exec_clockSound

/-! ## What each command may change (O11) -/

/-- A reset or an entry into RUNNING does not go from RUNNING to RUNNING. -/
theorem exec_same_of_running {i : Instr} {s t : State} (renews : isRenewal i = true) (was : s.phase = .running)
    (is : t.phase = .running) (run : exec i s = .next t) : t = s := by
  cases i with
  | powerOnReset =>
    obtain rfl := Host.Outcome.next.inj run
    cases is
  | restartReset =>
    obtain rfl := Host.Outcome.next.inj run
    split at is
    · cases is
    · next h => exact if_neg h
  | settingsLoadEnd =>
    obtain rfl := Host.Outcome.next.inj run
    rw [was]
  | _ => exact absurd renews (by simp [isRenewal])

/-- A request touches the trunk address or a room mode only where its rule does. -/
theorem request_same {α : Type} (f : State → α) {isRow : Nat → Bool} {rule : Request → State → Executed} {s t : State}
    (run : (Host.Outcome.next (s.executeRequest isRow rule) : Host.Outcome State Fault Refusal) = .next t)
    (taken : ∀ rest, f (s.taken rest) = f s) (rules : ∀ q u, f (rule q u).state = f u)
    (answers : ∀ u q status data, f (State.answer u q status data) = f u) : f t = f s :=
  request_keeping (P := fun t => f t = f s) run rfl (fun q rest => (rules q _).trans (taken rest))
    fun u q status data h => (answers u q status data).trans h

/-- Every request but ASSIGN ADDRESS leaves the trunk address, as its rule leaves the trunk port. -/
theorem request_address {fs : List Field} {isRow : Nat → Bool} {rule : Request → State → Executed} {s t : State}
    (keeps : ∀ q u, Keeps fs u (rule q u).state)
    (run : (Host.Outcome.next (s.executeRequest isRow rule) : Host.Outcome State Fault Refusal) = .next t)
    (apart : Field.trunk ∉ fs := by decide) : t.trunk.address = s.trunk.address :=
  request_same (fun u => u.trunk.address) run (fun _ => rfl)
    (fun q u => congrArg TrunkPort.address (keeps q u .trunk apart)) fun _ _ _ _ => rfl

theorem State.reply_address (s : State) (silent hold : Bool) : (s.reply silent hold).trunk.address = s.trunk.address := rfl

theorem poll_address {moment : Nat} {bytes : List Byte} {s t : State} (run : execPoll moment bytes s = .next t) :
    t.trunk.address = s.trunk.address := by
  have restored (u : State) : u.restoreLink.trunk.address = u.trunk.address := by
    unfold State.restoreLink
    split <;> rfl
  obtain rfl := Host.Outcome.next.inj run
  split
  · exact (State.reply_address _ _ _).trans (restored _)
  · rfl

/-- No command but ASSIGN ADDRESS, a reset and the entry into RUNNING changes the trunk address (09 R154). -/
theorem exec_address {i : Instr} {s t : State} (plain : isRenewal i = false) (other : i ≠ .assignAddress)
    (run : exec i s = .next t) : t.trunk.address = s.trunk.address := by
  by_cases touched : Field.trunk ∈ touchedBy i
  · cases i with
    | powerOnReset | restartReset | settingsLoadEnd => cases plain
    | commandFrame moment bytes =>
      have offered (u : State) (payload : List Byte) : (u.offerCommand payload).trunk.address = u.trunk.address := by
        fun_cases State.offerCommand <;> rfl
      obtain rfl := Host.Outcome.next.inj run
      split
      · exact offered _ _
      · rfl
    | poll => exact poll_address run
    | silenceTimerExpiry =>
      have silenced (p : TrunkPort) (moment : Nat) : (p.fallSilent moment).address = p.address := by
        unfold TrunkPort.fallSilent
        split <;> rfl
      obtain rfl := Host.Outcome.next.inj run
      split
      · split
        · exact silenced _ _
        · rfl
      · rfl
    | unknownRequest => exact request_address (fs := []) (fun _ u => Keeps.refl _ u) run
    | loadPermit => exact request_address loadPermitRule_keeps run
    | dropPermit => exact request_address dropPermitRule_keeps run
    | suspendPermit => exact request_address suspendPermitRule_keeps run
    | resumePermit => exact request_address resumePermitRule_keeps run
    | revokePermit => exact request_address revokePermitRule_keeps run
    | readPermit => exact request_address readPermitRule_keeps run
    | purgePermits => exact request_address purgePermitsRule_keeps run
    | loadEscort => exact request_address loadEscortRule_keeps run
    | dropEscort => exact request_address dropEscortRule_keeps run
    | readEscort => exact request_address readEscortRule_keeps run
    | clearTables => exact request_address clearTablesRule_keeps run
    | setRoom => exact request_address setRoomRule_keeps run
    | setRoomMode => exact request_address setRoomModeRule_keeps run
    | readRoom => exact request_address readRoomRule_keeps run
    | reconcileRoom => exact request_address reconcileRoomRule_keeps run
    | setProgram => exact request_address setProgramRule_keeps run
    | cancelRelease => exact request_address cancelReleaseRule_keeps run
    | resumeRoom => exact request_address resumeRoomRule_keeps run
    | remoteRelease => exact request_address remoteReleaseRule_keeps run
    | setStation => exact request_address setStationRule_keeps run
    | setPart => exact request_address setPartRule_keeps run
    | carry => exact request_address carryRule_keeps run
    | readStatus => exact request_address readStatusRule_keeps run
    | saveSettings answers => exact request_address (fun q u => saveSettingsRule_keeps q u answers) run
    | restart => exact request_address restartRule_keeps run
    | assignAddress => exact absurd rfl other
    | replySent moment =>
      obtain rfl := Host.Outcome.next.inj run
      split
      · split
        · dsimp only
          split <;> rfl
        · rfl
      · rfl
    | _ => exact absurd touched (by simp [touchedBy])
  · exact congrArg TrunkPort.address (exec_keeps run .trunk touched)

/-- The modes of the rooms. -/
def State.modes (s : State) : RoomId → RoomMode := fun r => (s.room r).mode

theorem setPartRule_modes (q : Request) (s : State) : (setPartRule q s).state.modes = s.modes := by
  have zones (u : State) : u.recomputeZones.modes = u.modes := by
    funext r
    simp [State.modes, State.room, State.recomputeZones, look]
  have applied (new : PartSettings) : (s.applyPart new).modes = s.modes := by
    unfold State.applyPart
    split
    · exact zones _
    · rfl
  fun_cases setPartRule
  case case3 => exact applied _
  all_goals rfl

theorem exec_modes {i : Instr} {s t : State} (was : s.phase = .running) (is : t.phase = .running)
    (room : i ≠ .setRoom) (mode : i ≠ .setRoomMode) (run : exec i s = .next t) : t.modes = s.modes := by
  by_cases touched : Field.rooms ∈ touchedBy i
  · have request {isRow : Nat → Bool} {rule : Request → State → Executed}
        (run : (Host.Outcome.next (s.executeRequest isRow rule) : Host.Outcome State Fault Refusal) = .next t)
        (rules : ∀ q u, (rule q u).state.modes = u.modes) : t.modes = s.modes :=
      request_same State.modes run (fun _ => rfl) rules fun _ _ _ _ => rfl
    cases i with
    | powerOnReset | restartReset | settingsLoadEnd => rw [exec_same_of_running rfl was is run]
    | suspendPermit => exact request run fun q u => funext (suspendPermitRule_touches q u).modes
    | revokePermit => exact request run fun q u => funext (revokePermitRule_touches q u).modes
    | reconcileRoom => exact request run fun q u => funext (reconcileRoomRule_touches q u).modes
    | setPart => exact request run setPartRule_modes
    | setRoom => exact absurd rfl room
    | setRoomMode => exact absurd rfl mode
    | visitTimeout | fieldGapAbandon | fieldFrame | partyWindowExpiry | leadWindowExpiry | overlayExpiry =>
      exact funext (Touches.exec rfl run).modes
    | _ => exact absurd touched (by simp [touchedBy])
  · have same : t.rooms = s.rooms := exec_keeps run .rooms touched
    unfold State.modes State.room
    rw [same]

/-- Settles O11: the fields that each command touches, and within the trunk port and the Room Table the parts of them. -/
theorem whatEachCommandMayChange : Obligations.WhatEachCommandMayChange := by
  intro c s t was is run
  have keeps := exec_keeps run
  have renewing (f : Field) (same : Field.same s s f) (others : isRenewal c = false → f ∉ touchedBy c) :
      Field.same s t f := by
    cases renews : isRenewal c with
    | true => rwa [exec_same_of_running renews was is run]
    | false => exact keeps f (others renews)
  refine ⟨keeps .serial ?_, ?_, renewing .loadResult rfl ?_, fun other => ?_,
    fun room program station part => renewing .settings rfl ?_,
    fun room mode r => congrFun (exec_modes was is room mode run) r⟩
  · cases c <;> simp [touchedBy]
  · cases c with
    | selfTestEnd =>
      obtain rfl := Host.Outcome.next.inj run
      rw [was]
    | _ => exact renewing .retired rfl (by simp [touchedBy, isRenewal])
  · cases c <;> simp [touchedBy, isRenewal]
  · cases renews : isRenewal c with
    | true => rw [exec_same_of_running renews was is run]
    | false => exact exec_address renews other run
  · cases c <;> simp_all [touchedBy, isRenewal]

end Sys2Proof.Machine

/-! PROOF. The two tables and the cells of permit memory through every step (O7). -/

namespace Sys2Proof.Machine

set_option Elab.async false

/-! ## What the reading of fields gives (12 R185) -/

theorem readFields_length {p : Nat} {sizes : List Nat} {bytes rest : List Byte} {values : List Nat}
    (h : readFields p sizes bytes = .ok (values, rest)) : values.length = sizes.length := by
  induction sizes generalizing p bytes rest values with
  | nil =>
    obtain ⟨rfl, -⟩ := Prod.mk.inj (Except.ok.inj h)
    rfl
  | cons n sizes ih =>
    simp only [readFields] at h
    split at h
    · cases h
    · split at h
      · cases h
      · next more read =>
        obtain ⟨rfl, -⟩ := Prod.mk.inj (Except.ok.inj h)
        simp [ih read]

theorem readEntries_length {n p : Nat} {sizes : List Nat} {bytes rest : List Byte} {entries : List (List Nat)}
    (h : readEntries n p sizes bytes = .ok (entries, rest)) :
    entries.length = n ∧ ∀ e ∈ entries, e.length = sizes.length := by
  induction n generalizing p bytes rest entries with
  | zero =>
    obtain ⟨rfl, -⟩ := Prod.mk.inj (Except.ok.inj h)
    simp
  | succ n ih =>
    simp only [readEntries] at h
    split at h
    · cases h
    · next first read =>
      split at h
      · cases h
      · next more readMore =>
        obtain ⟨rfl, -⟩ := Prod.mk.inj (Except.ok.inj h)
        obtain ⟨length, shapes⟩ := ih readMore
        exact ⟨by simp [length], by simpa using ⟨readFields_length read, shapes⟩⟩

theorem readCounted_length {head entry : List Nat} {body : List Byte} {values : List Nat} {entries : List (List Nat)}
    (h : readCounted head entry body = .ok (values, entries)) :
    entries.length = values.getLastD 0 ∧ ∀ e ∈ entries, e.length = entry.length := by
  simp only [readCounted] at h
  split at h
  · cases h
  · split at h
    · cases h
    · next read =>
      obtain ⟨rfl, rfl⟩ := Prod.mk.inj (Except.ok.inj h)
      exact readEntries_length read
    · cases h

theorem firstBad_eq_none {n : Nat} {checks : List Bool} : firstBad n checks = none ↔ ∀ b ∈ checks, b = true := by
  simp [firstBad, List.findIdx?_eq_none_iff]

/-- Each entry that was read gives one grant. -/
theorem grants_length {entries : List (List Nat)} (shapes : ∀ e ∈ entries, e.length = 8) :
    (entries.filterMap grantOf).length = entries.length := by
  induction entries with
  | nil => rfl
  | cons e entries ih =>
    obtain ⟨g, some⟩ : ∃ g, grantOf e = some g := by
      match e, shapes e (by simp) with
      | [_, _, _, _, _, _, _, _], _ => exact ⟨_, rfl⟩
    simp [some, ih fun d hd => shapes d (by simp [hd])]

/-- The fields of a LOAD PERMIT that are taken name a valid credential and 1 to 4 grants (01 R2, R7). -/
theorem permitTerms_ok {known : Nat → Bool} {body : List Byte} {t : PermitTerms} (h : permitTerms known body = .ok t) :
    validCredential t.credential = true ∧ 1 ≤ t.grants.length ∧ t.grants.length ≤ 4 := by
  unfold permitTerms at h
  split at h
  · cases h
  · next credential number company code level count entries read =>
    dsimp only at h
    split at h
    · cases h
    · next good =>
      obtain rfl := Except.ok.inj h
      obtain ⟨counted, shapes⟩ := readCounted_length read
      have counted : entries.length = count := counted
      have kept := grants_length shapes
      have checks := firstBad_eq_none.mp good
      have count14 : within 1 count 4 = true := checks _ (by simp)
      simp only [within, Bool.and_eq_true, decide_eq_true_eq] at count14
      rw [← counted, ← kept] at count14
      exact ⟨checks _ (by simp), count14⟩
  · cases h

/-! ## The lists of the two tables -/

theorem insertPermit_perm (p : Permit) (l : List Permit) : (insertPermit p l).Perm (p :: l) := by
  induction l with
  | nil => exact .refl _
  | cons q l ih =>
    by_cases first : p.credential ≤ q.credential
    · simp [insertPermit, first]
    · simpa [insertPermit, first] using (ih.cons q).trans (.swap p q l)

theorem insertStaff_perm (t : Staff) (l : List Staff) : (insertStaff t l).Perm (t :: l) := by
  induction l with
  | nil => exact .refl _
  | cons u l ih =>
    by_cases first : t.credential ≤ u.credential
    · simp [insertStaff, first]
    · simpa [insertStaff, first] using (ih.cons u).trans (.swap t u l)

/-- Putting in a record of a credential that the roster lacks keeps its order. -/
theorem insertStaff_rise (t : Staff) (l : List Staff) (h : (l.map Staff.credential).Pairwise (· < ·))
    (new : ∀ u ∈ l, u.credential ≠ t.credential) : ((insertStaff t l).map Staff.credential).Pairwise (· < ·) := by
  induction l with
  | nil => simp [insertStaff]
  | cons u l ih =>
    obtain ⟨least, rest⟩ := List.pairwise_cons.mp h
    have apart : u.credential ≠ t.credential := new u (by simp)
    by_cases first : t.credential ≤ u.credential
    · have below : t.credential < u.credential := by omega
      simp only [insertStaff, if_pos first, List.map_cons, List.pairwise_cons]
      refine ⟨fun c hc => ?_, least, rest⟩
      obtain rfl | hc := List.mem_cons.mp hc
      · exact below
      · exact below.trans (least c hc)
    · simp only [insertStaff, if_neg first, List.map_cons, List.pairwise_cons]
      refine ⟨fun c hc => ?_, ih rest fun v hv => new v (by simp [hv])⟩
      obtain ⟨v, hv, rfl⟩ := List.mem_map.mp hc
      obtain rfl | hv := List.mem_cons.mp ((insertStaff_perm t l).mem_iff.mp hv)
      · omega
      · exact least _ (List.mem_map_of_mem hv)

theorem State.permitOf_eq_none {s : State} {c : Nat} : s.permitOf c = none ↔ ∀ p ∈ s.permits, p.credential ≠ c := by
  simp [State.permitOf, List.find?_eq_none]

theorem State.staffOf_eq_none {s : State} {c : Nat} : s.staffOf c = none ↔ ∀ t ∈ s.roster, t.credential ≠ c := by
  simp [State.staffOf, List.find?_eq_none]

theorem State.permitOf_some {s : State} {c : Nat} {p : Permit} (h : s.permitOf c = some p) :
    p ∈ s.permits ∧ p.credential = c :=
  ⟨List.mem_of_find?_eq_some h, by simpa using List.find?_some h⟩

theorem State.staffOf_some {s : State} {c : Nat} {t : Staff} (h : s.staffOf c = some t) :
    t ∈ s.roster ∧ t.credential = c :=
  ⟨List.mem_of_find?_eq_some h, by simpa using List.find?_some h⟩

/-! ## The cells that records use (01 R5) -/

theorem usedCells_sublist {l m : List Permit} (h : l.Sublist m) : (usedCells l).Sublist (usedCells m) :=
  h.flatMap _

theorem usedCells_insert (p : Permit) (l : List Permit) : (usedCells (insertPermit p l)).Perm (p.cells ++ usedCells l) :=
  (insertPermit_perm p l).flatMap_right _

theorem mem_freeCells {m : RetiredMap} {l : List Permit} {c : Nat} :
    c ∈ freeCells m l ↔ c < Config.permitCells ∧ m.retires c = false ∧ c ∉ usedCells l := by
  simp [freeCells]

theorem freeCells_nodup (m : RetiredMap) (l : List Permit) : (freeCells m l).Nodup := List.nodup_range.filter _

/-- A record takes the lowest free cells: as many as it needs. -/
theorem Permit.placed_cells {p : Permit} {free : List Nat} (enough : p.grants.length < free.length) :
    (p.placed free).cells = free.take (cellsNeeded p.grants) := by
  cases free with
  | nil => simp at enough
  | cons c free => simp [Permit.placed, Permit.cells, cellsNeeded]

/-! ## The tables through the operations -/

namespace State.tablesSound

variable {s t : State}

theorem of_same (h : s.tablesSound) (permits : t.permits = s.permits) (roster : t.roster = s.roster)
    (retired : t.retired = s.retired) (phase : t.phase.isStarting = true → s.phase.isStarting = true) : t.tablesSound := by
  obtain ⟨permitOrder, staffOrder, apart, places, records, cellsApart, cellsGood, emptyStarting⟩ := h
  constructor <;> simp only [permits, roster, retired] <;> try assumption
  exact fun starting => emptyStarting (phase starting)

/-- Records taken out of the Permit Table free their cells and disturb nothing. -/
theorem fewerPermits (h : s.tablesSound) {l : List Permit} (sub : l.Sublist s.permits) : (s.withPermits l).tablesSound where
  permitOrder := h.permitOrder.sublist (sub.map _)
  staffOrder := h.staffOrder
  apart p hp := h.apart p (sub.subset hp)
  places := h.places
  records p hp := h.records p (sub.subset hp)
  cellsApart := h.cellsApart.sublist (usedCells_sublist sub)
  cellsGood c hc := h.cellsGood c ((usedCells_sublist sub).subset hc)
  emptyStarting starting := by
    obtain ⟨none, noStaff⟩ := h.emptyStarting starting
    exact ⟨List.eq_nil_of_subset_nil (none ▸ sub.subset), noStaff⟩

theorem fewerStaff (h : s.tablesSound) {l : List Staff} (sub : l.Sublist s.roster) : (s.withRoster l).tablesSound where
  permitOrder := h.permitOrder
  staffOrder := h.staffOrder.sublist (sub.map _)
  apart p hp u hu := h.apart p hp u (sub.subset hu)
  places := sub.length_le.trans h.places
  records := h.records
  cellsApart := h.cellsApart
  cellsGood := h.cellsGood
  emptyStarting starting := by
    obtain ⟨none, noStaff⟩ := h.emptyStarting starting
    exact ⟨none, List.eq_nil_of_subset_nil (noStaff ▸ sub.subset)⟩

/-- A change of records that leaves their terms leaves the tables sound. -/
theorem sameTerms (h : s.tablesSound) {f : Permit → Permit} (same : ∀ p : Permit, p.SameTerms (f p)) :
    (s.withPermits (s.permits.map f)).tablesSound := by
  have credentials : (s.permits.map f).map Permit.credential = s.permits.map Permit.credential := by
    simp [Function.comp_def, (same _).credential]
  have cells : usedCells (s.permits.map f) = usedCells s.permits := by
    simp only [usedCells, List.flatMap_map, Permit.cells, (same _).headerCell, (same _).grantCells]
    rfl
  refine ⟨?_, h.staffOrder, fun p hp => ?_, h.places, fun p hp => ?_, ?_, ?_, fun starting => ?_⟩
  · simpa only [withPermits_permits, credentials] using h.permitOrder
  · obtain ⟨q, hq, rfl⟩ := List.mem_map.mp hp
    rw [(same q).credential]
    exact h.apart q hq
  · obtain ⟨q, hq, rfl⟩ := List.mem_map.mp hp
    obtain ⟨credential, grants, count⟩ := h.records q hq
    obtain ⟨sameCredential, sameGrants, -, sameCells⟩ := same q
    exact ⟨sameCredential ▸ credential, sameGrants ▸ grants, by rw [sameGrants, sameCells, count]⟩
  · simpa only [withPermits_permits, cells] using h.cellsApart
  · simpa only [withPermits_permits, withPermits_retired, cells] using h.cellsGood
  · obtain ⟨none, noStaff⟩ := h.emptyStarting starting
    exact ⟨by simp [none], noStaff⟩

theorem touches (h : s.tablesSound) (chain : Touches s t) : t.tablesSound :=
  chain.keeping (fun change h => by
    cases change with
    | terms f same => exact h.sameTerms same
    | _ => exact h.of_same rfl rfl rfl id) h

/-- A record of a credential that neither table holds, put in with free cells of its own. -/
theorem addPermit (h : s.tablesSound) (running : s.phase.isStarting = false) {p : Permit}
    (credential : validCredential p.credential = true) (grants : 1 ≤ p.grants.length ∧ p.grants.length ≤ 4)
    (new : ∀ q ∈ s.permits, q.credential ≠ p.credential) (apart : ∀ t ∈ s.roster, p.credential ≠ t.credential)
    {free : List Nat} (lowest : free = freeCells s.retired s.permits) (enough : p.grants.length < free.length) :
    (s.withPermits (insertPermit (p.placed free) s.permits)).tablesSound := by
  have cells := Permit.placed_cells enough
  have taken : ∀ c ∈ (p.placed free).cells, c ∈ freeCells s.retired s.permits := by
    rw [cells, ← lowest]
    exact fun c hc => List.mem_of_mem_take hc
  have used := usedCells_insert (p.placed free) s.permits
  refine ⟨insertPermit_rise _ _ h.permitOrder new, h.staffOrder, fun q hq => ?_, h.places, fun q hq => ?_, ?_, fun c hc => ?_,
    fun starting => (Bool.false_ne_true (running.symm.trans starting)).elim⟩
  · obtain rfl | hq := (mem_insertPermit _ _ _).mp hq
    · exact apart
    · exact h.apart q hq
  · obtain rfl | hq := (mem_insertPermit _ _ _).mp hq
    · refine ⟨credential, grants, ?_⟩
      simp only [Permit.placed, List.length_take, List.length_drop]
      omega
    · exact h.records q hq
  · refine used.nodup_iff.mpr (List.nodup_append.mpr ⟨?_, h.cellsApart, fun c hc d hd => ?_⟩)
    · rw [cells, lowest]
      exact (freeCells_nodup _ _).sublist (List.take_sublist _ _)
    · rintro rfl
      exact (mem_freeCells.mp (taken c hc)).2.2 hd
  · obtain hc | hc := List.mem_append.mp (used.mem_iff.mp hc)
    · obtain ⟨inMemory, good, -⟩ := mem_freeCells.mp (taken c hc)
      exact ⟨inMemory, good⟩
    · exact h.cellsGood c hc

/-- A record of a credential that neither table holds, put into a roster with a place. -/
theorem addStaff (h : s.tablesSound) (running : s.phase.isStarting = false) {u : Staff}
    (new : ∀ t ∈ s.roster, t.credential ≠ u.credential) (apart : ∀ p ∈ s.permits, p.credential ≠ u.credential)
    (place : s.roster.length < Config.rosterPlaces) : (s.withRoster (insertStaff u s.roster)).tablesSound where
  permitOrder := h.permitOrder
  staffOrder := insertStaff_rise u _ h.staffOrder new
  apart p hp t ht := by
    obtain rfl | ht := List.mem_cons.mp ((insertStaff_perm u _).mem_iff.mp ht)
    · exact apart p hp
    · exact h.apart p hp t ht
  places := by
    have length := (insertStaff_perm u s.roster).length_eq
    simp only [withRoster_roster, length, List.length_cons]
    omega
  records := h.records
  cellsApart := h.cellsApart
  cellsGood := h.cellsGood
  emptyStarting starting := (Bool.false_ne_true (running.symm.trans starting)).elim

end State.tablesSound

theorem freshTables_sound (s : State) (permits : s.permits = []) (roster : s.roster = []) : s.tablesSound := by
  constructor <;> simp [permits, roster, usedCells]

/-! ## The requests on the tables -/

/-- A rule that keeps the tables sound while the part runs. -/
def RuleKeepsTables (rule : Request → State → Executed) : Prop :=
  ∀ q u, State.tablesSound u → u.phase.isStarting = false → (rule q u).state.tablesSound

theorem State.storePermit_tables {s : State} (h : s.tablesSound) (running : s.phase.isStarting = false) (kind : LoadKind)
    {record : Permit} (credential : validCredential record.credential = true)
    (grants : 1 ≤ record.grants.length ∧ record.grants.length ≤ 4)
    (apart : ∀ t ∈ s.roster, record.credential ≠ t.credential) : (s.storePermit kind record).state.tablesSound := by
  fun_cases State.storePermit
  · exact h
  · next others free needed short stored _ =>
    have removed : (s.withPermits others).tablesSound := h.fewerPermits List.filter_sublist
    have new : ∀ q ∈ others, q.credential ≠ record.credential := fun q hq => by
      simpa using (List.mem_filter.mp hq).2
    exact removed.addPermit running credential grants new apart rfl (Nat.le_of_not_lt short)

theorem loadPermitRule_tables : RuleKeepsTables loadPermitRule := by
  intro q u h running
  fun_cases loadPermitRule
  case case3 t read free absent =>
    obtain ⟨credential, grants⟩ := permitTerms_ok read
    have noStaff : u.staffOf t.credential = none := by simpa using free
    exact State.storePermit_tables h running _ credential grants fun v hv => (State.staffOf_eq_none.mp noStaff v hv).symm
  case case4 t read free old held =>
    obtain ⟨credential, grants⟩ := permitTerms_ok read
    have noStaff : u.staffOf t.credential = none := by simpa using free
    have same : old.credential = t.credential := (State.permitOf_some held).2
    exact State.storePermit_tables h running _ (same ▸ credential) grants
      fun v hv => same ▸ (State.staffOf_eq_none.mp noStaff v hv).symm
  all_goals exact h

theorem dropPermitRule_tables : RuleKeepsTables dropPermitRule := by
  intro q u h _
  fun_cases dropPermitRule
  case case3 => exact h.fewerPermits List.filter_sublist
  all_goals exact h

theorem purgePermitsRule_tables : RuleKeepsTables purgePermitsRule := by
  intro q u h _
  fun_cases purgePermitsRule
  case case3 => exact h.fewerPermits List.filter_sublist
  all_goals exact h

theorem dropEscortRule_tables : RuleKeepsTables dropEscortRule := by
  intro q u h _
  fun_cases dropEscortRule
  case case3 => exact h.fewerStaff List.filter_sublist
  all_goals exact h

theorem clearTablesRule_tables : RuleKeepsTables clearTablesRule := by
  intro q u h _
  fun_cases clearTablesRule
  case case3 => exact freshTables_sound _ rfl rfl
  all_goals exact h

theorem loadEscortRule_tables : RuleKeepsTables loadEscortRule := by
  intro q u h running
  have removed (c : Nat) : (u.withRoster (removeStaff c u.roster)).tablesSound := h.fewerStaff List.filter_sublist
  have stored (t : Staff) (absent : ¬ (u.permitOf t.credential).isSome = true)
      (place : (removeStaff t.credential u.roster).length < Config.rosterPlaces) :
      (u.withRoster (insertStaff t (removeStaff t.credential u.roster))).tablesSound := by
    have noPermit : u.permitOf t.credential = none := by simpa using absent
    have new : ∀ v ∈ removeStaff t.credential u.roster, v.credential ≠ t.credential := fun v hv => by
      simpa using (List.mem_filter.mp hv).2
    exact (removed t.credential).addStaff running new (State.permitOf_eq_none.mp noPermit) place
  fun_cases loadEscortRule
  case case3 t _ absent _ old held =>
    obtain ⟨held, same⟩ := State.staffOf_some held
    refine stored t absent (Nat.lt_of_lt_of_le (List.length_filter_lt_length_iff_exists.mpr ⟨old, held, by simp [same]⟩)
      h.places)
  case case4 t _ absent _ _ place => exact stored t absent (Nat.lt_of_le_of_lt (List.length_filter_le _ _) place)
  all_goals exact h

theorem request_tablesSound {isRow : Nat → Bool} {rule : Request → State → Executed} {s t : State}
    (run : (Host.Outcome.next (s.executeRequest isRow rule) : Host.Outcome State Fault Refusal) = .next t)
    (h : s.tablesSound) (rules : RuleKeepsTables rule) : t.tablesSound := by
  obtain rfl := Host.Outcome.next.inj run
  obtain eq | ⟨q, rest, may, -, -, result⟩ := executeRequest_cases s isRow rule
  · rw [eq]
    exact h
  · obtain ⟨running, -, -⟩ := State.mayExecute_iff.mp may
    have sound := rules q (s.withTrunk { s.trunk with commands := rest }) (h.of_same rfl rfl rfl id)
      (by simp [running, Phase.isStarting])
    obtain ⟨status, data, -, eq⟩ | ⟨-, eq⟩ := result
    · rw [eq]
      exact sound.of_same rfl rfl rfl id
    · rw [eq]
      exact sound

theorem exec_tablesSound (i : Instr) (s t : State) (h : s.tablesSound) (run : exec i s = .next t) : t.tablesSound := by
  by_cases touched : Field.permits ∈ touchedBy i ∨ Field.roster ∈ touchedBy i ∨ Field.retired ∈ touchedBy i ∨
      Field.phase ∈ touchedBy i
  · cases i with
    | powerOnReset | restartReset | settingsLoadEnd =>
      exact renewal_keeping rfl run h (fun _ _ => freshTables_sound _ rfl rfl) fun _ => freshTables_sound _ rfl rfl
    | selfTestEnd =>
      obtain rfl := Host.Outcome.next.inj run
      split
      · next phase =>
        obtain ⟨none, noStaff⟩ := h.emptyStarting (by rw [phase]; rfl)
        exact freshTables_sound _ none noStaff
      · exact h
    | loadPermit => exact request_tablesSound run h loadPermitRule_tables
    | dropPermit => exact request_tablesSound run h dropPermitRule_tables
    | suspendPermit => exact request_tablesSound run h fun q u h _ => h.touches (suspendPermitRule_touches q u)
    | resumePermit => exact request_tablesSound run h fun q u h _ => h.touches (resumePermitRule_touches q u)
    | revokePermit => exact request_tablesSound run h fun q u h _ => h.touches (revokePermitRule_touches q u)
    | purgePermits => exact request_tablesSound run h purgePermitsRule_tables
    | loadEscort => exact request_tablesSound run h loadEscortRule_tables
    | dropEscort => exact request_tablesSound run h dropEscortRule_tables
    | clearTables => exact request_tablesSound run h clearTablesRule_tables
    | fieldFrame => exact h.touches (Touches.exec rfl run)
    | powerLost cut =>
      have keeps := powerLost_keeps run
      refine h.of_same (keeps .permits (by decide)) (keeps .roster (by decide)) (keeps .retired (by decide)) ?_
      obtain rfl := Host.Outcome.next.inj run
      exact fun starting => (Bool.false_ne_true starting).elim
    | _ => exact absurd touched (by simp [touchedBy])
  · simp only [not_or] at touched
    obtain ⟨permits, roster, retired, phase⟩ := touched
    have keeps := exec_keeps run
    have same : t.phase = s.phase := keeps .phase phase
    exact h.of_same (keeps .permits permits) (keeps .roster roster) (keeps .retired retired) (by rw [same]; exact id)

/-- Settles O7: a record enters one table only where the other lacks its credential, and with free cells of its own; nothing but
the self-test, over empty tables, changes the retired-cell map. -/
theorem tablesKeepTheirCells : Obligations.TablesKeepTheirCells :=
  step_keeping (fun _ _ h => h.of_same rfl rfl rfl id) exec_tablesSound

end Sys2Proof.Machine

/-! PROOF. One place for each person, counted: the seats that a credential has on the roll, in the parties and as a WAITING lead are
one at most. What the shared operations do to the seats (for O9). -/

namespace Sys2Proof.Machine

set_option Elab.async false

/-! ## Seats -/

/-- How many seats a credential has in a slot: its places in a party, or its WAITING lead. -/
def Slot.seats (x : Slot) (c : Nat) : Nat :=
  match x with
  | .party p => (p.members.map Member.credential).count c
  | .lead l => if l.kind = .waiting ∧ l.staff = c then 1 else 0
  | .empty => 0

/-- Whether a slot holds a lead of a staff credential. -/
def Slot.leads (x : Slot) (c : Nat) : Prop := ∃ l, x = .lead l ∧ l.staff = c

/-- How many presence records a credential has. -/
def State.inside (s : State) (c : Nat) : Nat := (s.roll.map Presence.credential).count c

/-- How many seats a credential has in all. -/
def State.seats (s : State) (c : Nat) : Nat := s.inside c + ∑ r : RoomId, (s.slot r).seats c

/-- One seat at most for each credential, members with a permit record and leads with a staff record. -/
structure State.seated (s : State) : Prop where
  apart : ∀ p ∈ s.permits, ∀ t ∈ s.roster, p.credential ≠ t.credential
  membersHeld : ∀ r c, (s.slot r).holdsMember c = true → (s.permitOf c).isSome = true
  leadsHeld : ∀ r c, (s.slot r).leads c → (s.staffOf c).isSome = true
  once : ∀ c, s.seats c ≤ 1

section
variable {x : Slot} {c d : Nat}

theorem Slot.holdsMember_iff : x.holdsMember c = true ↔ ∃ p, x = .party p ∧ ∃ m ∈ p.members, m.credential = c := by
  cases x <;> simp [Slot.holdsMember]

theorem Slot.seats_pos : 0 < x.seats c ↔
    x.holdsMember c = true ∨ ∃ l, x = .lead l ∧ l.kind = .waiting ∧ l.staff = c := by
  cases x with
  | lead l =>
    by_cases own : l.kind = .waiting ∧ l.staff = c <;> simp [Slot.seats, Slot.holdsMember, own]
  | _ => simp [Slot.seats, Slot.holdsMember, List.count_pos_iff]

theorem Slot.seats_eq_zero (member : x.holdsMember c = false) (lead : ¬ x.leads c) : x.seats c = 0 := by
  by_contra some
  obtain held | ⟨l, eq, -, staff⟩ := Slot.seats_pos.mp (Nat.pos_of_ne_zero some)
  · exact Bool.false_ne_true (member.symm.trans held)
  · exact lead ⟨l, eq, staff⟩

@[simp] theorem Slot.seats_empty : Slot.empty.seats c = 0 := rfl

@[simp] theorem Slot.seats_entered {staff level : Nat} {w : Countdown} :
    (Slot.lead { staff := staff, kind := .entered, issueLevel := level, window := w }).seats c = 0 := by
  simp [Slot.seats]

end

theorem State.inside_eq_zero {s : State} {c : Nat} : s.inside c = 0 ↔ s.offRoll c := by
  simp [State.inside, State.offRoll, List.count_eq_zero]

theorem State.presenceOf_eq_none {s : State} {c : Nat} : s.presenceOf c = none ↔ s.offRoll c := by
  simp [State.presenceOf, State.offRoll, List.find?_eq_none]

theorem State.presenceOf_some {s : State} {c : Nat} {q : Presence} (h : s.presenceOf c = some q) :
    q ∈ s.roll ∧ q.credential = c :=
  ⟨List.mem_of_find?_eq_some h, by simpa using List.find?_some h⟩

/-- The seats of one room and of the roll are seats. -/
theorem State.seats_room_le (s : State) (r : RoomId) (c : Nat) : s.inside c + (s.slot r).seats c ≤ s.seats c :=
  Nat.add_le_add_left (Finset.single_le_sum (f := fun r => (s.slot r).seats c) (fun _ _ => Nat.zero_le _) (Finset.mem_univ r)) _

theorem State.seats_two_rooms_le (s : State) {r q : RoomId} (other : r ≠ q) (c : Nat) :
    (s.slot r).seats c + (s.slot q).seats c ≤ s.seats c := by
  have two : ∑ i ∈ {r, q}, (s.slot i).seats c ≤ ∑ i : RoomId, (s.slot i).seats c :=
    Finset.sum_le_sum_of_subset (Finset.subset_univ _)
  rw [Finset.sum_pair other] at two
  exact two.trans (Nat.le_add_left _ _)

/-- The seats compared, room by room but for one room, whose seats are compared together with those on the roll. -/
theorem State.seats_le {s t : State} {c : Nat} (r : RoomId) (elsewhere : ∀ q, q ≠ r → (t.slot q).seats c ≤ (s.slot q).seats c)
    (here : t.inside c + (t.slot r).seats c ≤ s.inside c + (s.slot r).seats c) : t.seats c ≤ s.seats c := by
  have others : ∑ q ∈ Finset.univ.erase r, (t.slot q).seats c ≤ ∑ q ∈ Finset.univ.erase r, (s.slot q).seats c :=
    Finset.sum_le_sum fun q hq => elsewhere q (Finset.ne_of_mem_erase hq)
  have sumT := Finset.add_sum_erase Finset.univ (fun q => (t.slot q).seats c) (Finset.mem_univ r)
  have sumS := Finset.add_sum_erase Finset.univ (fun q => (s.slot q).seats c) (Finset.mem_univ r)
  simp only [State.seats]
  omega

/-- Where a credential has no seat but those of the roll and of one room. -/
theorem State.seats_of_room {t : State} {c : Nat} (r : RoomId) (elsewhere : ∀ q, q ≠ r → (t.slot q).seats c = 0) :
    t.seats c = t.inside c + (t.slot r).seats c := by
  rw [State.seats, Finset.sum_eq_single r (fun q _ other => elsewhere q other) (by simp)]

/-- Seats of a sum that come two and two from one room are one at most. -/
theorem State.seats_le_one {s : State} {c : Nat} (roll : s.inside c ≤ 1) (room : ∀ r, (s.slot r).seats c ≤ 1)
    (off : ∀ r, 0 < (s.slot r).seats c → s.inside c = 0)
    (one : ∀ r q, 0 < (s.slot r).seats c → 0 < (s.slot q).seats c → r = q) : s.seats c ≤ 1 := by
  by_cases some : ∃ r, 0 < (s.slot r).seats c
  · obtain ⟨r, seat⟩ := some
    rw [State.seats_of_room r fun q other => by
      by_contra more
      exact other (one q r (Nat.pos_of_ne_zero more) seat), off r seat, Nat.zero_add]
    exact room r
  · have none : ∀ r, (s.slot r).seats c = 0 := by simpa using some
    simpa [State.seats, none] using roll

theorem State.onePlace.seated {s : State} (h : s.onePlace) : s.seated := by
  obtain ⟨apart, rollOnce, membersOff, membersHeld, membersOnce, membersApart, leadsHeld, waitingOff, waitingOnce⟩ := h
  have held : ∀ r c, (s.slot r).holdsMember c = true → (s.permitOf c).isSome = true := fun r c member => by
    obtain ⟨p, eq, m, hm, rfl⟩ := Slot.holdsMember_iff.mp member
    exact membersHeld r p eq m hm
  have leads : ∀ r c, (s.slot r).leads c → (s.staffOf c).isSome = true := fun r c ⟨l, eq, staff⟩ => staff ▸ leadsHeld r l eq
  have noBoth (c : Nat) (permit : (s.permitOf c).isSome = true) (staff : (s.staffOf c).isSome = true) : False := by
    obtain ⟨p, hp⟩ := Option.isSome_iff_exists.mp permit
    obtain ⟨t, ht⟩ := Option.isSome_iff_exists.mp staff
    obtain ⟨memP, rfl⟩ := State.permitOf_some hp
    obtain ⟨memT, same⟩ := State.staffOf_some ht
    exact apart p memP t memT same.symm
  refine ⟨apart, held, leads, fun c => State.seats_le_one (List.nodup_iff_count_le_one.mp rollOnce c) (fun r => ?_)
    (fun r seat => ?_) fun r q seatR seatQ => ?_⟩
  · cases eq : s.slot r with
    | party p => exact List.nodup_iff_count_le_one.mp (membersOnce r p eq) c
    | lead l =>
      simp only [Slot.seats]
      split <;> omega
    | empty => exact Nat.zero_le _
  · rw [State.inside_eq_zero]
    obtain member | ⟨l, eq, kind, rfl⟩ := Slot.seats_pos.mp seat
    · obtain ⟨p, eq, m, hm, rfl⟩ := Slot.holdsMember_iff.mp member
      exact membersOff r p eq m hm
    · exact waitingOff r l eq kind
  · by_contra other
    obtain memberR | ⟨l, eqR, kindR, rfl⟩ := Slot.seats_pos.mp seatR
    · obtain memberQ | ⟨k, eqQ, -, rfl⟩ := Slot.seats_pos.mp seatQ
      · obtain ⟨p, eqR, m, hm, rfl⟩ := Slot.holdsMember_iff.mp memberR
        obtain ⟨k, eqQ, n, hn, same⟩ := Slot.holdsMember_iff.mp memberQ
        exact membersApart r q p k other eqR eqQ m hm n hn same.symm
      · exact noBoth _ (held r _ memberR) (leads q _ ⟨k, eqQ, rfl⟩)
    · obtain memberQ | ⟨k, eqQ, kindQ, same⟩ := Slot.seats_pos.mp seatQ
      · exact noBoth _ (held q _ memberQ) (leads r _ ⟨l, eqR, rfl⟩)
      · exact waitingOnce r q l k other eqR eqQ kindR kindQ same.symm

theorem State.seated.onePlace {s : State} (h : s.seated) : s.onePlace := by
  obtain ⟨apart, held, leads, once⟩ := h
  have memberSeat {r : RoomId} {p : Party} (eq : s.slot r = .party p) {m : Member} (hm : m ∈ p.members) :
      0 < (s.slot r).seats m.credential :=
    Slot.seats_pos.mpr (.inl (Slot.holdsMember_iff.mpr ⟨p, eq, m, hm, rfl⟩))
  have leadSeat {r : RoomId} {l : Lead} (eq : s.slot r = .lead l) (kind : l.kind = .waiting) :
      0 < (s.slot r).seats l.staff :=
    Slot.seats_pos.mpr (.inr ⟨l, eq, kind, rfl⟩)
  have off {r : RoomId} {c : Nat} (seat : 0 < (s.slot r).seats c) : s.offRoll c := by
    have both := (s.seats_room_le r c).trans (once c)
    exact State.inside_eq_zero.mp (by omega)
  have one {r q : RoomId} {c : Nat} (other : r ≠ q) (seatR : 0 < (s.slot r).seats c) (seatQ : 0 < (s.slot q).seats c) :
      False := by
    have both := (s.seats_two_rooms_le other c).trans (once c)
    omega
  refine ⟨apart, List.nodup_iff_count_le_one.mpr fun c => ?_, fun r p eq m hm => off (memberSeat eq hm), fun r p eq m hm => ?_,
    fun r p eq => List.nodup_iff_count_le_one.mpr fun c => ?_, fun r q p k other eqR eqQ m hm n hn same => ?_,
    fun r l eq => leads r l.staff ⟨l, eq, rfl⟩, fun r l eq kind => off (leadSeat eq kind),
    fun r q l k other eqR eqQ kindR kindQ same => ?_⟩
  · exact (Nat.le_add_right _ _).trans (once c)
  · exact held r _ (Slot.holdsMember_iff.mpr ⟨p, eq, m, hm, rfl⟩)
  · have room := (s.seats_room_le r c).trans (once c)
    rw [eq] at room
    exact (Nat.le_add_left _ _).trans room
  · exact one other (memberSeat eqR hm) (same ▸ memberSeat eqQ hn)
  · exact one other (leadSeat eqR kindR) (same ▸ leadSeat eqQ kindQ)

/-! ## Changes in which nobody gains a seat -/

/-- Nobody gains a seat, and the holders of permit and staff records stay. -/
structure Leaves (s t : State) : Prop where
  permits : t.permits.map Permit.credential = s.permits.map Permit.credential
  roster : t.roster = s.roster
  inside : ∀ c, t.inside c ≤ s.inside c
  seats : ∀ r c, (t.slot r).seats c ≤ (s.slot r).seats c
  members : ∀ r c, (t.slot r).holdsMember c = true → (s.slot r).holdsMember c = true
  leads : ∀ r c, (t.slot r).leads c → (s.slot r).leads c

theorem permitOf_isSome {s : State} {c : Nat} : (s.permitOf c).isSome = true ↔ c ∈ s.permits.map Permit.credential := by
  simp [State.permitOf, List.find?_isSome]

theorem staffOf_isSome {s : State} {c : Nat} : (s.staffOf c).isSome = true ↔ c ∈ s.roster.map Staff.credential := by
  simp [State.staffOf, List.find?_isSome]

namespace Leaves

variable {s t u : State}

theorem refl (s : State) : Leaves s s :=
  ⟨rfl, rfl, fun _ => le_rfl, fun _ _ => le_rfl, fun _ _ => id, fun _ _ => id⟩

theorem trans (h : Leaves s t) (k : Leaves t u) : Leaves s u :=
  ⟨k.permits.trans h.permits, k.roster.trans h.roster, fun c => (k.inside c).trans (h.inside c),
    fun r c => (k.seats r c).trans (h.seats r c), fun r c x => h.members r c (k.members r c x),
    fun r c x => h.leads r c (k.leads r c x)⟩

theorem permitOf (h : Leaves s t) (c : Nat) : (t.permitOf c).isSome = true ↔ (s.permitOf c).isSome = true := by
  rw [permitOf_isSome, permitOf_isSome, h.permits]

theorem staffOf (h : Leaves s t) (c : Nat) : t.staffOf c = s.staffOf c := by
  rw [State.staffOf, State.staffOf, h.roster]

theorem seated (h : Leaves s t) (k : s.seated) : t.seated where
  apart p hp v hv := by
    have mem : p.credential ∈ s.permits.map Permit.credential := h.permits ▸ List.mem_map_of_mem hp
    obtain ⟨q, hq, same⟩ := List.mem_map.mp mem
    exact same ▸ k.apart q hq v (h.roster ▸ hv)
  membersHeld r c member := (h.permitOf c).mpr (k.membersHeld r c (h.members r c member))
  leadsHeld r c lead := by
    rw [h.staffOf]
    exact k.leadsHeld r c (h.leads r c lead)
  once c :=
    (State.seats_le 0 (fun q _ => h.seats q c) (Nat.add_le_add (h.inside c) (h.seats 0 c))).trans (k.once c)

/-- A change of other fields. -/
theorem of_keeps {fs : List Field} (h : Keeps fs s t)
    (apart : Field.permits ∉ fs ∧ Field.roster ∉ fs ∧ Field.roll ∉ fs ∧ Field.slots ∉ fs := by decide) : Leaves s t := by
  obtain ⟨permits, roster, roll, slots⟩ := apart
  have samePermits : t.permits = s.permits := h .permits permits
  have sameRoll : t.roll = s.roll := h .roll roll
  have sameSlots : t.slots = s.slots := h .slots slots
  have same (r : RoomId) : t.slot r = s.slot r := by rw [State.slot, sameSlots, State.slot]
  refine ⟨by rw [samePermits], h .roster roster, fun c => by rw [State.inside, sameRoll, State.inside], fun r c => by rw [same],
    fun r c => by rw [same]; exact id, fun r c => by rw [same]; exact id⟩

theorem ite {x : Prop} [Decidable x] (h : Leaves s t) (k : Leaves s u) : Leaves s (if x then t else u) := by
  split
  · exact h
  · exact k

theorem foldl {α : Type} {op : State → α → State} (one : ∀ t x, Leaves t (op t x)) (l : List α) (s : State) :
    Leaves s (l.foldl op s) := by
  induction l generalizing s with
  | nil => exact refl s
  | cons x l ih => exact (one s x).trans (ih _)

/-- Permit records changed in other fields than their credential. -/
theorem withPermits (s : State) {f : Permit → Permit} (same : ∀ p, (f p).credential = p.credential) :
    Leaves s (s.withPermits (s.permits.map f)) :=
  ⟨by simp [Function.comp_def, same], rfl, fun _ => le_rfl, fun _ _ => le_rfl, fun _ _ => id, fun _ _ => id⟩

theorem grantNotice (s : State) (c level : Nat) : Leaves s (s.grantNotice c level) :=
  withPermits s fun p => by split <;> rfl

theorem setPermitState (s : State) (c : Nat) (x : PermitState) : Leaves s (s.setPermitState c x) :=
  withPermits s fun p => by split <;> rfl

/-- A roll with fewer records of each credential. -/
theorem withRoll (s : State) {l : List Presence}
    (fewer : ∀ c, (l.map Presence.credential).count c ≤ (s.roll.map Presence.credential).count c) : Leaves s (s.withRoll l) :=
  ⟨rfl, rfl, fewer, fun _ _ => le_rfl, fun _ _ => id, fun _ _ => id⟩

/-- Presence records changed in their contractor parts. -/
theorem mapRoll (s : State) {f : Presence → Presence} (same : ∀ p, (f p).credential = p.credential) :
    Leaves s (s.withRoll (s.roll.map f)) :=
  withRoll s fun c => by simp [Function.comp_def, same]

theorem changeRecord (s : State) (c : Nat) (f : ContractorPart → ContractorPart) : Leaves s (s.changeRecord c f) :=
  mapRoll s fun p => by split <;> rfl

theorem evaluateLone (s : State) (r : RoomId) : Leaves s (s.evaluateLone r) := mapRoll s fun p => by split <;> rfl

/-- Slots in which nobody gains a seat. -/
theorem withSlots (s : State) {v : Vector Slot 6}
    (fewer : ∀ r, (∀ c, (look v r).seats c ≤ (s.slot r).seats c) ∧
      (∀ c, (look v r).holdsMember c = true → (s.slot r).holdsMember c = true) ∧
      (∀ c, (look v r).leads c → (s.slot r).leads c)) : Leaves s (s.withSlots v) :=
  ⟨rfl, rfl, fun _ => le_rfl, fun r => (fewer r).1, fun r => (fewer r).2.1, fun r => (fewer r).2.2⟩

theorem clearSlot (s : State) (r : RoomId) : Leaves s (s.setSlot r .empty) :=
  withSlots s fun q => by
    rw [look_put]
    split
    · exact ⟨fun _ => Nat.zero_le _, fun _ => nofun, fun _ ⟨_, eq, _⟩ => nomatch eq⟩
    · exact ⟨fun _ => le_rfl, fun _ => id, fun _ => id⟩

end Leaves

/-! ## One who leaves a slot -/

section
variable (x : Slot) (c d : Nat)

theorem Slot.without_seats_le : (x.without c).seats d ≤ x.seats d := by
  unfold Slot.without
  split
  · next p =>
    split
    · have fewer : ((p.members.filter fun m => m.credential != c).map Member.credential).count d
          ≤ (p.members.map Member.credential).count d := ((List.filter_sublist).map _).count_le _
      split
      · exact Nat.zero_le _
      · next eq =>
        rw [eq] at fewer
        exact fewer
    · exact le_rfl
  · exact le_rfl

theorem Slot.without_holdsMember : (x.without c).holdsMember d = true ↔ x.holdsMember d = true ∧ d ≠ c := by
  have kept (p : Party) : (p.members.filter fun m => m.credential != c).any (fun m => m.credential == d) = true ↔
      p.members.any (fun m => m.credential == d) = true ∧ d ≠ c := by
    simp only [List.any_eq_true, List.mem_filter, bne_iff_ne, beq_iff_eq]
    constructor
    · rintro ⟨m, ⟨hm, other⟩, rfl⟩
      exact ⟨⟨m, hm, rfl⟩, other⟩
    · rintro ⟨⟨m, hm, rfl⟩, other⟩
      exact ⟨m, ⟨hm, other⟩, rfl⟩
  unfold Slot.without
  split
  · next p =>
    split
    · split
      · next eq => simpa [eq, Slot.holdsMember] using kept p
      · next eq => simpa only [eq, Slot.holdsMember] using kept p
    · next absent =>
      refine ⟨fun held => ⟨held, ?_⟩, fun ⟨held, _⟩ => held⟩
      rintro rfl
      exact absent held
  · next other =>
    have none : x.holdsMember d = false := by
      cases x with
      | party p => exact absurd rfl (other p)
      | _ => rfl
    simp [none]

theorem Slot.without_leads : (x.without c).leads d ↔ x.leads d := by
  unfold Slot.without
  split
  · split
    · split <;> simp [Slot.leads]
    · exact .rfl
  · exact .rfl

/-- One who has left a slot and leads nothing has no seat in it. -/
theorem Slot.without_seats_self (lead : ¬ x.leads c) : (x.without c).seats c = 0 :=
  Slot.seats_eq_zero (by simpa using fun h => (Slot.without_holdsMember x c c).mp h |>.2)
    (by rwa [Slot.without_leads])

theorem Slot.withoutWaiting_cases :
    (∃ l, x = .lead l ∧ l.staff = c ∧ l.kind = .waiting ∧ x.withoutWaiting c = .empty) ∨
      ((∀ l, x = .lead l → l.kind = .waiting → l.staff ≠ c) ∧ x.withoutWaiting c = x) := by
  cases x with
  | lead l =>
    by_cases own : l.staff = c ∧ l.kind = .waiting
    · exact .inl ⟨l, rfl, own.1, own.2, by simp [Slot.withoutWaiting, own]⟩
    · refine .inr ⟨fun k eq kind staff => own ?_, by simp [Slot.withoutWaiting, own]⟩
      obtain rfl := Slot.lead.inj eq
      exact ⟨staff, kind⟩
  | party p => exact .inr ⟨fun _ => nofun, rfl⟩
  | empty => exact .inr ⟨fun _ => nofun, rfl⟩

theorem Slot.withoutWaiting_seats_le : (x.withoutWaiting c).seats d ≤ x.seats d := by
  obtain ⟨-, -, -, -, eq⟩ | ⟨-, eq⟩ := x.withoutWaiting_cases c
  · simp [eq]
  · rw [eq]

theorem Slot.withoutWaiting_holdsMember (h : (x.withoutWaiting c).holdsMember d = true) : x.holdsMember d = true := by
  obtain ⟨-, -, -, -, eq⟩ | ⟨-, eq⟩ := x.withoutWaiting_cases c
  · simp [eq, Slot.holdsMember] at h
  · rwa [eq] at h

theorem Slot.withoutWaiting_leads (h : (x.withoutWaiting c).leads d) : x.leads d := by
  obtain ⟨-, -, -, -, eq⟩ | ⟨-, eq⟩ := x.withoutWaiting_cases c
  · simp [eq, Slot.leads] at h
  · rwa [eq] at h

/-- A staff member whose WAITING lead is cleared and who is no party member has no seat in the slot. -/
theorem Slot.withoutWaiting_seats_self (member : x.holdsMember c = false) : (x.withoutWaiting c).seats c = 0 := by
  obtain ⟨-, -, -, -, eq⟩ | ⟨none, eq⟩ := x.withoutWaiting_cases c
  · simp [eq]
  · rw [eq]
    by_contra some
    obtain held | ⟨l, isLead, kind, staff⟩ := Slot.seats_pos.mp (Nat.pos_of_ne_zero some)
    · exact Bool.false_ne_true (member.symm.trans held)
    · exact none l isLead kind staff

end

namespace Leaves

variable {s t u : State} {r : RoomId}

theorem without (s : State) (r : RoomId) (c : Nat) : Leaves s (s.setSlot r ((s.slot r).without c)) :=
  withSlots s fun q => by
    rw [look_put]
    split
    · next e =>
      exact e ▸ ⟨fun d => Slot.without_seats_le _ c d, fun d h => ((Slot.without_holdsMember _ c d).mp h).1,
        fun d h => (Slot.without_leads _ c d).mp h⟩
    · exact ⟨fun _ => le_rfl, fun _ => id, fun _ => id⟩

/-! ### Operations in which people only leave -/

theorem issue (s : State) (v : Verdict) : Leaves s (s.issue v) := of_keeps (issue_keeps s v)

theorem raise (s : State) (room : Option RoomId) (c st : Option Nat) (d : AlarmDetail) : Leaves s (s.raise room c st d) :=
  of_keeps (raise_keeps s room c st d)

theorem release (s : State) (r : RoomId) (k : Direction) : Leaves s (s.release r k) := of_keeps (release_keeps s r k)

theorem breakSlot (s : State) (r : RoomId) (x : Reason) : Leaves s (s.breakSlot r x) := by
  unfold State.breakSlot
  split
  · exact (of_keeps (denyMembers_keeps s r _ x _)).trans (clearSlot _ r)
  · exact clearSlot s r
  · exact refl s

theorem enterFault (s : State) (r : RoomId) (cause : FaultCause) : Leaves s (s.enterFault r cause) := by
  have told (d : Door) (a : AlarmDetail) : Leaves s ((s.setDoor r d).raiseDoor r a) :=
    (of_keeps (setDoor_keeps s r d)).trans (of_keeps (raiseDoor_keeps _ r a))
  exact (told _ _).trans (breakSlot _ r _)

theorem driverOffline (s : State) (r : RoomId) : Leaves s (s.driverOffline r) := by
  unfold State.driverOffline
  split
  · exact refl s
  · exact refl s
  · exact enterFault s r _

theorem driverEvent (s : State) (r : RoomId) (e : DriverEvent) : Leaves s (s.driverEvent r e) := by
  cases e with
  | opened => exact of_keeps (doorOpened_keeps s r)
  | closed => exact of_keeps (doorClosed_keeps s r)
  | button => exact of_keeps (exitButton_keeps s r)
  | fault => exact ite (refl s) (enterFault s r _)
  | faultCleared => exact of_keeps (faultCleared_keeps s r)

theorem driverEvents (s : State) (r : RoomId) (es : List DriverEvent) : Leaves s (s.driverEvents r es) :=
  foldl (fun t _ => driverEvent t r _) es s

theorem endEnteredLead (s : State) (r : RoomId) (c : Nat) : Leaves s (s.endEnteredLead r c) := by
  unfold State.endEnteredLead
  split
  · exact ite (clearSlot s r) (refl s)
  · exact refl s

section
variable (cause : DepartureCause)

theorem relink (s : State) (r : RoomId) (departed c : Nat) : Leaves s (s.relink r departed cause c) := by
  unfold State.relink
  split
  · exact changeRecord s c _
  · exact (changeRecord s c _).trans (raise _ _ _ _ _)

theorem partnerLeft (s : State) (r : RoomId) (departed partner : Nat) : Leaves s (s.partnerLeft r departed partner cause) := by
  unfold State.partnerLeft
  split
  · exact ite ((changeRecord s partner _).trans (raise _ _ _ _ _)) (refl s)
  · exact refl s

theorem afterRemoval (s : State) (q : Presence) : Leaves s (s.afterRemoval cause q) := by
  unfold State.afterRemoval
  split
  · exact (foldl (fun t _ => relink _ t _ _ _) _ s).trans (endEnteredLead _ _ _)
  · split
    · exact partnerLeft _ _ _ _ _
    · exact refl s

/-- What follows the removal of the records in a departure. -/
theorem departed (s : State) (r : RoomId) (gone : Presence → Bool) :
    Leaves (s.withRoll (s.roll.filter fun p => !(p.room == r && gone p))) (s.depart r gone cause) :=
  (foldl (fun t _ => afterRemoval cause t _) _ _).trans (evaluateLone _ r)

theorem depart (s : State) (r : RoomId) (gone : Presence → Bool) : Leaves s (s.depart r gone cause) :=
  (withRoll s fun c => (List.filter_sublist.map _).count_le c).trans (departed cause s r gone)

end

theorem stayCheck (s : State) (q : Presence) (minute : Nat) : Leaves s (s.stayCheck q minute) := by
  unfold State.stayCheck
  split
  · exact refl s
  · exact ite ((changeRecord s _ _).trans (raise _ _ _ _ _)) (refl s)

theorem checkInCheck (s : State) (q : Presence) (minute : Nat) : Leaves s (s.checkInCheck q minute) := by
  unfold State.checkInCheck
  split
  · exact refl s
  · split
    · exact ite (ite ((changeRecord s _ _).trans (raise _ _ _ _ _)) ((changeRecord s _ _).trans (raise _ _ _ _ _))) (refl s)
    · exact refl s

theorem rollMinute (s : State) (minute : Nat) : Leaves s (s.rollMinute minute) :=
  foldl (fun t q => (stayCheck t q minute).trans (checkInCheck _ q minute)) s.roll s

theorem withdrawInside (s : State) (c : Nat) (x : PermitState) : Leaves s (s.withdrawInside c x) := by
  unfold State.withdrawInside
  split
  · exact refl s
  · split
    · exact refl s
    · exact (changeRecord s c _).trans (raise _ _ _ _ _)

theorem withdrawAt (s : State) (r : RoomId) (c : Nat) (x : Reason) : Leaves s (s.withdrawAt r c x) := by
  unfold State.withdrawAt
  split
  · split
    · exact (without s r c).trans (issue _ _)
    · exact refl s
  · exact refl s

theorem withdraw (s : State) (c : Nat) (x : PermitState) : Leaves s (s.withdraw c x) :=
  (foldl (fun t r => withdrawAt t r c _) allRooms s).trans (withdrawInside _ c x)

theorem lockSlot (s : State) (r : RoomId) : Leaves s (s.lockSlot r) := by
  unfold State.lockSlot
  split
  · exact (foldl (fun t _ => of_keeps (issueSilently_keeps t _)) _ s).trans (clearSlot _ r)
  · exact clearSlot s r
  · exact refl s

theorem holdSlot (s : State) (r : RoomId) : Leaves s (s.holdSlot r) := by
  unfold State.holdSlot
  split
  · exact breakSlot s r _
  · exact refl s

theorem changeMode (s : State) (r : RoomId) (new : RoomMode) : Leaves s (s.changeMode r new) := by
  have set (t : State) (x : RoomState) : Leaves t (t.setRoom r x) := of_keeps (setRoom_keeps t r x)
  cases new with
  | locked => exact (((set _ _).trans (lockSlot _ r)).trans (of_keeps (cancelEntry_keeps _ r))).trans (set _ _)
  | contractorHold => exact ite ((set _ _).trans (holdSlot _ r)) (set _ _)
  | normal => exact set _ _

theorem applyRoom (s : State) (r : RoomId) (new : RoomSettings) : Leaves s (s.applyRoom r new) := by
  have taken := (of_keeps (storeRoom_keeps s r new)).trans (of_keeps (takeIdentity_keeps _ r (s.roomSettings r) new))
  exact ite (taken.trans (evaluateLone _ r)) taken

theorem reconcile (s : State) (r : RoomId) (named : List Nat) : Leaves s (s.reconcile r named) :=
  (depart _ s r _).trans (of_keeps (setRollState_keeps _ r _))

end Leaves

end Sys2Proof.Machine

/-! PROOF. Each decision gives its presenter one seat and takes the ones it had before: each person stays in one place (O9). -/

namespace Sys2Proof.Machine

set_option Elab.async false

/-! ## What a decision does to the seats -/

/-- A decision about a presenter at a room: elsewhere nobody gains a seat and the presenter has none; everyone else has no more seats
on the roll and at the room than before; and the presenter has one of these at most. -/
structure Decides (r : RoomId) (c : Nat) (s t : State) : Prop where
  permits : t.permits.map Permit.credential = s.permits.map Permit.credential
  roster : t.roster = s.roster
  elsewhere : ∀ q, q ≠ r → ∀ d, (t.slot q).seats d ≤ (s.slot q).seats d
  elsewhereOff : ∀ q, q ≠ r → (t.slot q).seats c = 0
  here : ∀ d, d ≠ c → t.inside d + (t.slot r).seats d ≤ s.inside d + (s.slot r).seats d
  hereOnce : t.inside c + (t.slot r).seats c ≤ 1
  members : ∀ q d, (t.slot q).holdsMember d = true → (s.permitOf d).isSome = true
  leads : ∀ q d, (t.slot q).leads d → (s.staffOf d).isSome = true

namespace Decides

variable {r : RoomId} {c : Nat} {s t u : State}

theorem seated (h : Decides r c s t) (k : s.seated) : t.seated where
  apart p hp v hv := by
    have mem : p.credential ∈ s.permits.map Permit.credential := h.permits ▸ List.mem_map_of_mem hp
    obtain ⟨q, hq, same⟩ := List.mem_map.mp mem
    exact same ▸ k.apart q hq v (h.roster ▸ hv)
  membersHeld q d member := by
    rw [permitOf_isSome, h.permits, ← permitOf_isSome]
    exact h.members q d member
  leadsHeld q d lead := by
    rw [State.staffOf, h.roster]
    exact h.leads q d lead
  once d := by
    by_cases presenter : d = c
    · subst presenter
      rw [State.seats_of_room r h.elsewhereOff]
      exact h.hereOnce
    · exact (State.seats_le r (fun q other => h.elsewhere q other d) (h.here d presenter)).trans (k.once d)

/-- What follows a decision and gives nobody a seat. -/
theorem leaves (h : Decides r c s t) (k : Leaves t u) : Decides r c s u where
  permits := k.permits.trans h.permits
  roster := k.roster.trans h.roster
  elsewhere q other d := (k.seats q d).trans (h.elsewhere q other d)
  elsewhereOff q other := Nat.le_zero.mp ((k.seats q c).trans (h.elsewhereOff q other).le)
  here d other := (Nat.add_le_add (k.inside d) (k.seats r d)).trans (h.here d other)
  hereOnce := (Nat.add_le_add (k.inside c) (k.seats r c)).trans h.hereOnce
  members q d member := h.members q d (k.members q d member)
  leads q d lead := h.leads q d (k.leads q d lead)

end Decides

/-! ## The slots of the other rooms -/

/-- A change of a slot in which nobody gains a seat. -/
structure FewerSeats (f : Slot → Slot) : Prop where
  seats : ∀ x d, (f x).seats d ≤ x.seats d
  members : ∀ x d, (f x).holdsMember d = true → x.holdsMember d = true
  leads : ∀ x d, (f x).leads d → x.leads d

theorem FewerSeats.without (c : Nat) : FewerSeats (Slot.without · c) :=
  ⟨fun x => Slot.without_seats_le x c, fun x d member => ((Slot.without_holdsMember x c d).mp member).1,
    fun x d => (Slot.without_leads x c d).mp⟩

theorem FewerSeats.withoutWaiting (c : Nat) : FewerSeats (Slot.withoutWaiting · c) :=
  ⟨fun x => Slot.withoutWaiting_seats_le x c, fun x => Slot.withoutWaiting_holdsMember x c,
    fun x => Slot.withoutWaiting_leads x c⟩

theorem FewerSeats.comp {f g : Slot → Slot} (h : FewerSeats f) (k : FewerSeats g) : FewerSeats fun x => g (f x) :=
  ⟨fun x d => (k.seats _ d).trans (h.seats x d), fun x d member => h.members x d (k.members _ d member),
    fun x d lead => h.leads x d (k.leads _ d lead)⟩

/-- A decision told by the slot it leaves at the room, the change it makes to every other slot, and the roll. -/
theorem Decides.of_slots {r : RoomId} {c : Nat} {s t : State} {x : Slot} {f : Slot → Slot} (seated : s.seated)
    (permits : t.permits.map Permit.credential = s.permits.map Permit.credential) (roster : t.roster = s.roster)
    (here : t.slot r = x) (away : ∀ q, q ≠ r → t.slot q = f (s.slot q)) (fewer : FewerSeats f)
    (gone : ∀ q, q ≠ r → (f (s.slot q)).seats c = 0)
    (others : ∀ d, d ≠ c → t.inside d + x.seats d ≤ s.inside d + (s.slot r).seats d)
    (once : t.inside c + x.seats c ≤ 1) (members : ∀ d, x.holdsMember d = true → (s.permitOf d).isSome = true)
    (leads : ∀ d, x.leads d → (s.staffOf d).isSome = true) : Decides r c s t where
  permits := permits
  roster := roster
  elsewhere q other d := by
    rw [away q other]
    exact fewer.seats _ d
  elsewhereOff q other := by
    rw [away q other]
    exact gone q other
  here d other := by
    rw [here]
    exact others d other
  hereOnce := by
    rw [here]
    exact once
  members q d member := by
    by_cases room : q = r
    · exact members d (by rwa [room, here] at member)
    · rw [away q room] at member
      exact seated.membersHeld q d (fewer.members _ d member)
  leads q d lead := by
    by_cases room : q = r
    · exact leads d (by rwa [room, here] at lead)
    · rw [away q room] at lead
      exact seated.leadsHeld q d (fewer.leads _ d lead)

/-! ## The operations of a decision -/

section
variable (s : State) (r q : RoomId) (c d level : Nat)

theorem State.leaveOtherParty_slot :
    (s.leaveOtherParty r c).slot q = if q = r then s.slot q else (s.slot q).without c := by
  simp [State.leaveOtherParty, State.slot, look]

theorem State.clearWaitingElsewhere_slot :
    (s.clearWaitingElsewhere r c).slot q = if q = r then s.slot q else (s.slot q).withoutWaiting c := by
  simp [State.clearWaitingElsewhere, State.slot, look]

theorem State.openLead_slot (kind : LeadKind) :
    (s.openLead r c kind level).slot q
      = if r = q then .lead { staff := c, kind := kind, issueLevel := level, window := s.startWindow } else s.slot q :=
  State.setSlot_slot _ _ _ _

theorem State.addRecords_inside (l : List Presence) :
    (s.addRecords r l).inside d = s.inside d + (l.map Presence.credential).count d := by
  have kept : ((s.withRoll (s.roll ++ l)).evaluateLone r).roll.map Presence.credential
      = (s.roll ++ l).map Presence.credential := by
    simp only [State.evaluateLone, withRoll_roll, List.map_map]
    refine List.map_congr_left fun p _ => ?_
    simp only [Function.comp_apply]
    split <;> rfl
  rw [State.inside, State.addRecords, kept, List.map_append, List.count_append, State.inside]

theorem State.grantNotice_credentials :
    (s.grantNotice c level).permits.map Permit.credential = s.permits.map Permit.credential :=
  (Leaves.grantNotice s c level).permits

theorem State.noticeMembers_leaves (ms : List Member) : Leaves s (s.noticeMembers ms) :=
  Leaves.foldl (fun t _ => Leaves.grantNotice t _ _) ms s

theorem State.noticeMembers_slot (ms : List Member) : (s.noticeMembers ms).slot q = s.slot q := by
  have same : (s.noticeMembers ms).slots = s.slots := noticeMembers_keeps s ms .slots (by decide)
  rw [State.slot, same, State.slot]

theorem State.noticeMembers_inside (ms : List Member) : (s.noticeMembers ms).inside d = s.inside d := by
  have same : (s.noticeMembers ms).roll = s.roll := noticeMembers_keeps s ms .roll (by decide)
  rw [State.inside, same, State.inside]

end

/-! ## The presenters -/

theorem State.seated.not_both {s : State} (h : s.seated) {c : Nat} (permit : (s.permitOf c).isSome = true)
    (staff : (s.staffOf c).isSome = true) : False := by
  obtain ⟨p, hp⟩ := Option.isSome_iff_exists.mp permit
  obtain ⟨t, ht⟩ := Option.isSome_iff_exists.mp staff
  obtain ⟨memP, rfl⟩ := State.permitOf_some hp
  obtain ⟨memT, same⟩ := State.staffOf_some ht
  exact h.apart p memP t memT same.symm

/-- A contractor at a room: with a permit record and no staff record, without a presence record and not in the room's party. -/
structure State.contractorAt (s : State) (r : RoomId) (c : Nat) : Prop where
  seated : s.seated
  noStaff : s.staffOf c = none
  permit : (s.permitOf c).isSome = true
  off : s.inside c = 0
  notHere : (s.slot r).holdsMember c = false

/-- A member of staff without a presence record. -/
structure State.staffAt (s : State) (c : Nat) : Prop where
  seated : s.seated
  staff : (s.staffOf c).isSome = true
  off : s.inside c = 0

namespace State.contractorAt

variable {s : State} {r : RoomId} {c : Nat}

theorem noLead (h : s.contractorAt r c) (q : RoomId) : ¬ (s.slot q).leads c := fun lead => by
  have staff := h.seated.leadsHeld q c lead
  rw [h.noStaff] at staff
  cases staff

theorem noSeat (h : s.contractorAt r c) : (s.slot r).seats c = 0 := Slot.seats_eq_zero h.notHere (h.noLead r)

end State.contractorAt

theorem State.seated.noMember {s : State} (h : s.seated) {c : Nat} (staff : (s.staffOf c).isSome = true) (q : RoomId) :
    (s.slot q).holdsMember c = false := by
  by_contra member
  exact h.not_both (h.membersHeld q c (by simpa using member)) staff

/-! ## The contractor path -/

section
variable {s : State} {r : RoomId} {p : Presentation} {w : Permit} {g : Chosen}

/-- A contractor goes in alone: a place on the roll, and none in another party. -/
theorem State.contractorAt.enters (h : s.contractorAt r p.credential) (x : Presence) (own : x.credential = p.credential)
    (level : Nat) :
    Decides r p.credential s (((s.addRecords r [x]).grantNotice p.credential level).leaveOtherParty r p.credential) := by
  have inside (d : Nat) : (((s.addRecords r [x]).grantNotice p.credential level).leaveOtherParty r p.credential).inside d
      = s.inside d + [p.credential].count d := by
    rw [← own]
    exact s.addRecords_inside r d [x]
  refine .of_slots h.seated (State.grantNotice_credentials _ _ _) rfl
    (by rw [State.leaveOtherParty_slot, if_pos rfl]; rfl)
    (fun q other => by rw [State.leaveOtherParty_slot, if_neg other]; rfl) (.without p.credential)
    (fun q _ => Slot.without_seats_self _ _ (h.noLead q)) (fun d other => ?_) ?_ (h.seated.membersHeld r) (h.seated.leadsHeld r)
  · simp [inside, Ne.symm other]
  · simp [inside, h.off, h.noSeat]

theorem State.contractorAt.admitted (h : s.contractorAt r p.credential) (escort : Option Nat) :
    (s.admitContractor r p w g escort).seated := by
  unfold State.admitContractor
  split
  · exact (Leaves.issue s _).seated h.seated
  · exact ((h.enters _ rfl _).leaves ((Leaves.release _ r .entry).trans (Leaves.issue _ _))).seated h.seated

/-- The members of a party hold seats in its slot. -/
theorem Slot.seats_party (y : Party) (c : Nat) : (Slot.party y).seats c = (y.members.map Member.credential).count c := rfl

/-- A contractor and a party member of the room go in together, and the party is over. -/
theorem State.contractorAt.entersWith (h : s.contractorAt r p.credential) {m : Member}
    (held : (s.slot r).holdsMember m.credential = true) (x z : Presence)
    (partner : x.credential = m.credential) (own : z.credential = p.credential) :
    Decides r p.credential s (((((s.addRecords r [x, z]).grantNotice m.credential m.issueLevel).grantNotice p.credential
      p.issueLevel).setSlot r .empty).leaveOtherParty r p.credential) := by
  have apart : m.credential ≠ p.credential := fun same => by
    rw [same] at held
    exact Bool.false_ne_true (h.notHere.symm.trans held)
  have inside (d : Nat) : (s.addRecords r [x, z]).inside d = s.inside d + [m.credential, p.credential].count d := by
    rw [State.addRecords_inside, List.map_cons, List.map_singleton, partner, own]
  generalize notices : ((s.addRecords r [x, z]).grantNotice m.credential m.issueLevel).grantNotice p.credential
    p.issueLevel = u
  have insideU (d : Nat) : u.inside d = s.inside d + [m.credential, p.credential].count d := by
    rw [← inside, ← notices]
    rfl
  have permits : u.permits.map Permit.credential = s.permits.map Permit.credential := by
    rw [← notices, State.grantNotice_credentials, State.grantNotice_credentials]
    rfl
  have roster : u.roster = s.roster := by
    rw [← notices]
    rfl
  have slots (q : RoomId) : u.slot q = s.slot q := by
    rw [← notices]
    rfl
  have seat : 0 < (s.slot r).seats m.credential := Slot.seats_pos.mpr (.inl held)
  refine .of_slots h.seated permits roster (by rw [State.leaveOtherParty_slot, if_pos rfl, setSlot_slot_self])
    (fun q other => by
      rw [State.leaveOtherParty_slot, if_neg other, setSlot_slot_other _ _ _ _ (Ne.symm other), slots])
    (.without p.credential) (fun q _ => Slot.without_seats_self _ _ (h.noLead q)) (fun d other => ?_) ?_
    (fun d member => ?_) fun d lead => ?_
  · refine (insideU d).le.trans ?_
    by_cases same : m.credential = d
    · subst same
      simp [Ne.symm other]
      omega
    · simp [Ne.symm other, same]
  · refine (insideU p.credential).le.trans ?_
    simp [apart, h.off]
  · cases member
  · simp [Slot.leads] at lead

theorem State.contractorAt.pairs (h : s.contractorAt r p.credential) {y : Party} (slot : s.slot r = .party y) :
    (s.joinPair r p w g y).seated := by
  unfold State.joinPair
  split
  · next m rest members =>
    unfold State.completePair
    split
    · exact (((Leaves.clearSlot s r).trans (Leaves.issue _ _)).trans (Leaves.issue _ _)).seated h.seated
    · have held : (s.slot r).holdsMember m.credential = true :=
        Slot.holdsMember_iff.mpr ⟨y, slot, m, by simp [members], rfl⟩
      exact ((h.entersWith held _ _ rfl rfl).leaves
        ((Leaves.release _ r .entry).trans ((Leaves.issue _ _).trans (Leaves.issue _ _)))).seated h.seated
  · exact h.seated

/-- A contractor takes a place in a party of the room, and none in another. -/
theorem State.contractorAt.waits (h : s.contractorAt r p.credential) (y : Party)
    (others : ∀ d, d ≠ p.credential → (Slot.party y).seats d ≤ (s.slot r).seats d)
    (own : (Slot.party y).seats p.credential ≤ 1)
    (members : ∀ d, (Slot.party y).holdsMember d = true → (s.slot r).holdsMember d = true ∨ d = p.credential) (v : Verdict) :
    (((s.setSlot r (.party y)).leaveOtherParty r p.credential).issue v).seated := by
  refine Decides.seated (r := r) (c := p.credential) (s := s) (.leaves (t := State.leaveOtherParty _ r p.credential)
    ?_ (Leaves.issue _ _)) h.seated
  refine .of_slots h.seated rfl rfl (by rw [State.leaveOtherParty_slot, if_pos rfl, setSlot_slot_self])
    (fun q other => by rw [State.leaveOtherParty_slot, if_neg other, setSlot_slot_other _ _ _ _ (Ne.symm other)])
    (.without p.credential) (fun q _ => Slot.without_seats_self _ _ (h.noLead q))
    (fun d other => Nat.add_le_add_left (others d other) _) (Nat.add_le_add (h.off.le : s.inside p.credential ≤ 0) own)
    (fun d member => ?_) fun d lead => ?_
  · obtain was | rfl := members d member
    · exact h.seated.membersHeld r d was
    · exact h.permit
  · simp [Slot.leads] at lead

theorem State.contractorAt.partied (h : s.contractorAt r p.credential) : (s.partyHandling r p w g).seated := by
  unfold State.partyHandling
  split
  · next y slot =>
    unfold State.joinParty
    split
    · split
      · refine h.waits _ (fun d other => ?_) ?_ (fun d member => ?_) _
        · rw [slot, Slot.seats_party, Slot.seats_party]
          simp [memberOf, Ne.symm other]
        · have none := h.noSeat
          rw [slot, Slot.seats_party] at none
          simp [Slot.seats_party, memberOf, none]
        · rw [slot]
          have among : (Slot.party y).holdsMember d = true ∨ p.credential = d := by
            simpa [Slot.holdsMember, memberOf] using member
          exact among.imp id Eq.symm
      · exact (Leaves.issue s _).seated h.seated
    · split
      · exact h.pairs slot
      · exact (Leaves.issue s _).seated h.seated
  · refine h.waits _ (fun d other => ?_) ?_ (fun d member => ?_) _
    · simp [Slot.seats_party, memberOf, Ne.symm other]
    · simp [Slot.seats_party, memberOf]
    · have own : p.credential = d := by simpa [Slot.holdsMember, memberOf] using member
      exact .inr own.symm

/-- A contractor and the member of staff of the room's WAITING lead go in together. -/
theorem State.contractorAt.entersLed (h : s.contractorAt r p.credential) {l : Lead} (slot : s.slot r = .lead l)
    (kind : l.kind = .waiting) (x z : Presence) (staff : x.credential = l.staff) (own : z.credential = p.credential) :
    Decides r p.credential s (((((s.addRecords r [x, z]).grantNotice p.credential p.issueLevel).leaveOtherParty r
      p.credential).openLead r l.staff .entered l.issueLevel).clearWaitingElsewhere r l.staff) := by
  have onRoster : (s.staffOf l.staff).isSome = true := h.seated.leadsHeld r l.staff ⟨l, slot, rfl⟩
  have apart : l.staff ≠ p.credential := fun same => h.noLead r ⟨l, slot, same⟩
  have inside (d : Nat) : (s.addRecords r [x, z]).inside d = s.inside d + [l.staff, p.credential].count d := by
    rw [State.addRecords_inside, List.map_cons, List.map_singleton, staff, own]
  generalize notices : (s.addRecords r [x, z]).grantNotice p.credential p.issueLevel = u
  have insideU (d : Nat) : u.inside d = s.inside d + [l.staff, p.credential].count d := by
    rw [← inside, ← notices]
    rfl
  have permits : u.permits.map Permit.credential = s.permits.map Permit.credential := by
    rw [← notices, State.grantNotice_credentials]
    rfl
  have roster : u.roster = s.roster := by
    rw [← notices]
    rfl
  have slots (q : RoomId) : u.slot q = s.slot q := by
    rw [← notices]
    rfl
  refine .of_slots h.seated permits roster
    (by rw [State.clearWaitingElsewhere_slot, if_pos rfl, State.openLead_slot, if_pos rfl])
    (fun q other => by
      rw [State.clearWaitingElsewhere_slot, if_neg other, State.openLead_slot, if_neg (Ne.symm other),
        State.leaveOtherParty_slot, if_neg other, slots])
    ((FewerSeats.without p.credential).comp (.withoutWaiting l.staff))
    (fun q _ => Nat.le_zero.mp ((Slot.withoutWaiting_seats_le _ _ _).trans (Slot.without_seats_self _ _ (h.noLead q)).le))
    (fun d other => ?_) ?_ (fun d member => ?_) fun d lead => ?_
  · rw [Slot.seats_entered, Nat.add_zero, slot]
    refine (insideU d).le.trans ?_
    simp [List.count_cons, Ne.symm other, Slot.seats, kind]
  · rw [Slot.seats_entered, Nat.add_zero]
    refine (insideU p.credential).le.trans ?_
    simp [apart, h.off]
  · cases member
  · obtain ⟨k, eq, same⟩ := lead
    obtain rfl := Slot.lead.inj eq
    exact same ▸ onRoster

theorem State.contractorAt.joinsLead (h : s.contractorAt r p.credential) {l : Lead} (slot : s.slot r = .lead l)
    (kind : l.kind = .waiting) : (s.completeLead r p w g l).seated := by
  unfold State.completeLead
  split
  · exact (Leaves.issue s _).seated h.seated
  · exact ((h.entersLed slot kind _ _ rfl rfl).leaves
      ((Leaves.release _ r .entry).trans ((Leaves.issue _ _).trans (Leaves.issue _ _)))).seated h.seated

theorem State.contractorAt.escorted (h : s.contractorAt r p.credential) : (s.escortHandling r p w g).seated := by
  unfold State.escortHandling
  split
  · split
    · next y slot =>
      split
      · exact h.pairs slot
      · exact h.admitted _
    · exact h.admitted _
  · split
    · next l slot =>
      unfold State.meetLead
      split
      · exact h.partied
      · split
        · exact h.partied
        · split
          · next kind => exact h.joinsLead slot kind
          · split
            · exact h.admitted _
            · exact h.partied
    · exact h.partied

end

/-! ## The staff path -/

section
variable {s : State} {r : RoomId} {p : Presentation} {w : Staff}

/-- What a decision about a member of staff leaves elsewhere: no WAITING lead of that member. -/
theorem State.seated.staffDecides (h : s.seated) (staff : (s.staffOf p.credential).isSome = true) {t : State} {x : Slot}
    (permits : t.permits.map Permit.credential = s.permits.map Permit.credential) (roster : t.roster = s.roster)
    (here : t.slot r = x) (away : ∀ q, q ≠ r → t.slot q = (s.slot q).withoutWaiting p.credential)
    (others : ∀ d, d ≠ p.credential → t.inside d + x.seats d ≤ s.inside d + (s.slot r).seats d)
    (once : t.inside p.credential + x.seats p.credential ≤ 1)
    (members : ∀ d, x.holdsMember d = true → (s.permitOf d).isSome = true)
    (leads : ∀ d, x.leads d → (s.staffOf d).isSome = true) : Decides r p.credential s t :=
  .of_slots h permits roster here away (.withoutWaiting p.credential)
    (fun q _ => Slot.withoutWaiting_seats_self _ _ (h.noMember staff q)) others once members leads

/-- A member of staff opens a lead at a room, with no WAITING lead elsewhere; a WAITING lead takes the one seat. -/
theorem State.staffAt.leads (h : s.staffAt p.credential) (kind : LeadKind) (level : Nat) (v : Verdict) :
    (((s.openLead r p.credential kind level).clearWaitingElsewhere r p.credential).issue v).seated := by
  have decides : Decides r p.credential s ((s.openLead r p.credential kind level).clearWaitingElsewhere r p.credential) := by
    refine h.seated.staffDecides h.staff rfl rfl
      (by rw [State.clearWaitingElsewhere_slot, if_pos rfl, State.openLead_slot, if_pos rfl])
      (fun q other => by rw [State.clearWaitingElsewhere_slot, if_neg other, State.openLead_slot, if_neg (Ne.symm other)])
      (fun d other => ?_) ?_ (fun d member => ?_) fun d lead => ?_
    · refine Nat.add_le_add_left ?_ _
      simp [Slot.seats, Ne.symm other]
    · refine (Nat.add_le_add h.off.le (?_ : _ ≤ 1))
      simp only [Slot.seats]
      split <;> omega
    · cases member
    · obtain ⟨k, eq, same⟩ := lead
      obtain rfl := Slot.lead.inj eq
      exact same ▸ h.staff
  exact (decides.leaves (Leaves.issue _ v)).seated h.seated

/-- A member of staff goes in alone, opening an ENTERED lead or leaving another's slot as it is. -/
theorem State.staffAt.granted (h : s.staffAt p.credential) (lead : Bool)
    (slot : lead = false → (s.slot r).seats p.credential = 0) : (s.grantStaff r p lead).seated := by
  have inside (d : Nat) : (s.addRecords r [s.staffPresence r p.credential]).inside d = s.inside d + [p.credential].count d :=
    s.addRecords_inside r d _
  generalize entered : s.addRecords r [s.staffPresence r p.credential] = u at inside
  have permits : u.permits = s.permits := by rw [← entered]; rfl
  have roster : u.roster = s.roster := by rw [← entered]; rfl
  have slots (q : RoomId) : u.slot q = s.slot q := by rw [← entered]; rfl
  have rest (t : State) : Leaves t ((t.release r .entry).issue
      ((t.release r .entry).presenterVerdict (some (r, .entry)) p .grant .none)) :=
    (Leaves.release _ r .entry).trans (Leaves.issue _ _)
  unfold State.grantStaff
  rw [entered]
  cases lead with
  | true =>
    have decides : Decides r p.credential s
        ((u.openLead r p.credential .entered p.issueLevel).clearWaitingElsewhere r p.credential) := by
      refine h.seated.staffDecides h.staff (congrArg _ permits) roster
        (by rw [State.clearWaitingElsewhere_slot, if_pos rfl, State.openLead_slot, if_pos rfl])
        (fun q other => by
          rw [State.clearWaitingElsewhere_slot, if_neg other, State.openLead_slot, if_neg (Ne.symm other), slots])
        (fun d other => ?_) ?_ (fun d member => ?_) fun d lead => ?_
      · refine (inside d).le.trans ?_
        simp [Ne.symm other]
      · refine (inside p.credential).le.trans ?_
        simp [h.off]
      · cases member
      · obtain ⟨k, eq, same⟩ := lead
        obtain rfl := Slot.lead.inj eq
        exact same ▸ h.staff
    exact (decides.leaves (rest _)).seated h.seated
  | false =>
    have decides : Decides r p.credential s (u.clearWaitingElsewhere r p.credential) := by
      refine h.seated.staffDecides h.staff (congrArg _ permits) roster
        (by rw [State.clearWaitingElsewhere_slot, if_pos rfl, slots])
        (fun q other => by rw [State.clearWaitingElsewhere_slot, if_neg other, slots])
        (fun d other => ?_) ?_ (h.seated.membersHeld r) (h.seated.leadsHeld r)
      · refine Nat.add_le_add_right ((inside d).le.trans ?_) _
        simp [Ne.symm other]
      · refine (Nat.add_le_add (inside p.credential).le (slot rfl).le).trans ?_
        simp [h.off]
    exact (decides.leaves (rest _)).seated h.seated

theorem State.staffAt.admitted (h : s.staffAt p.credential) (lead : Bool)
    (slot : lead = false → (s.slot r).seats p.credential = 0) : (s.admitStaff r p lead).seated := by
  unfold State.admitStaff
  split
  · exact (Leaves.issue s _).seated h.seated
  · exact h.granted lead slot

theorem completionVerdicts_leaves (r : RoomId) (size released : Nat) (b : Places) (staff : Nat) (i : Nat) (ms : List Member)
    (s : State) : Leaves s (s.completionVerdicts r size released b staff i ms) :=
  Leaves.of_keeps (completionVerdicts_keeps r size released b staff ms i s)

/-- A member of staff, outside or already in the room, takes members of the room's party in and opens an ENTERED lead. -/
theorem State.seated.completed (h : s.seated) (staff : (s.staffOf p.credential).isSome = true) {y : Party}
    (slot : s.slot r = .party y) (outside : Bool) (off : outside = true → s.inside p.credential = 0) :
    (s.completeByStaff r p w y outside).seated := by
  have noMember : (y.members.map Member.credential).count p.credential = 0 := by
    have none := h.noMember staff r
    rw [slot] at none
    rw [List.count_eq_zero]
    intro mem
    obtain ⟨m, hm, same⟩ := List.mem_map.mp mem
    exact Bool.false_ne_true (none.symm.trans (Slot.holdsMember_iff.mpr ⟨y, rfl, m, hm, same⟩))
  have once : s.inside p.credential ≤ 1 := (Nat.le_add_right _ _).trans (h.once p.credential)
  unfold State.completeByStaff
  dsimp only
  generalize released : (s.completionPlaces r w (if outside then 1 else 0)).released y.members.length = n
  have taken (d : Nat) : ((y.members.take n).map Member.credential).count d ≤ (y.members.map Member.credential).count d :=
    ((List.take_sublist n _).map _).count_le d
  generalize entrants : (if outside then [s.staffPresence r p.credential] else [])
    ++ (y.members.take n).map (fun m => s.memberPresence r m (some p.credential) none) = records
  have inside (d : Nat) : (s.addRecords r records).inside d
      = s.inside d + ((if outside then [p.credential] else []).count d + ((y.members.take n).map Member.credential).count d) := by
    rw [State.addRecords_inside, ← entrants, List.map_append, List.count_append, List.map_map]
    cases outside <;> rfl
  generalize noticed : (s.addRecords r records).noticeMembers (y.members.take n) = u
  have insideU (d : Nat) : u.inside d
      = s.inside d + ((if outside then [p.credential] else []).count d + ((y.members.take n).map Member.credential).count d) := by
    rw [← noticed, State.noticeMembers_inside, inside]
  have permits : u.permits.map Permit.credential = s.permits.map Permit.credential := by
    rw [← noticed, (State.noticeMembers_leaves _ _).permits]
    rfl
  have roster : u.roster = s.roster := by
    rw [← noticed, (State.noticeMembers_leaves _ _).roster]
    rfl
  have slots (q : RoomId) : u.slot q = s.slot q := by
    rw [← noticed, State.noticeMembers_slot]
    rfl
  have decides : Decides r p.credential s
      ((u.openLead r p.credential .entered p.issueLevel).clearWaitingElsewhere r p.credential) := by
    refine h.staffDecides staff permits roster
      (by rw [State.clearWaitingElsewhere_slot, if_pos rfl, State.openLead_slot, if_pos rfl])
      (fun q other => by
        rw [State.clearWaitingElsewhere_slot, if_neg other, State.openLead_slot, if_neg (Ne.symm other), slots])
      (fun d other => ?_) ?_ (fun d member => ?_) fun d lead => ?_
    · rw [Slot.seats_entered, Nat.add_zero, slot, Slot.seats_party]
      refine (insideU d).le.trans (Nat.add_le_add_left ?_ _)
      have few := taken d
      cases outside <;> simpa [Ne.symm other] using few
    · rw [Slot.seats_entered, Nat.add_zero]
      refine (insideU p.credential).le.trans ?_
      have few := taken p.credential
      cases outside with
      | true =>
        have none := off rfl
        simp only [if_true, List.count_singleton_self]
        omega
      | false =>
        simp only [Bool.false_eq_true, if_false, List.count_nil]
        omega
    · cases member
    · obtain ⟨k, eq, same⟩ := lead
      obtain rfl := Slot.lead.inj eq
      exact same ▸ staff
  refine (decides.leaves (Leaves.trans ?_ (completionVerdicts_leaves _ _ _ _ _ _ _ _))).seated h
  have opened (t : State) : Leaves t (if outside || 0 < n then t.release r .entry else t) :=
    Leaves.ite (Leaves.release t r .entry) (Leaves.refl t)
  exact Leaves.trans (opened _) (Leaves.ite (Leaves.issue _ _) (Leaves.refl _))

theorem State.seated.collects (h : s.seated) (staff : (s.staffOf p.credential).isSome = true) {y : Party}
    (slot : s.slot r = .party y)
    (off : ∀ q, s.presenceOf p.credential = some q → q.room = r) : (s.staffCompletion r p w y).seated := by
  unfold State.staffCompletion
  dsimp only
  split
  · exact (((Leaves.clearSlot s r).trans (Leaves.issue _ _)).trans (Leaves.of_keeps (denyMembers_keeps _ _ _ _ _))).seated h
  · refine h.completed staff slot _ fun outside => ?_
    cases eq : s.presenceOf p.credential with
    | none => exact State.inside_eq_zero.mpr (State.presenceOf_eq_none.mp eq)
    | some q =>
      have elsewhere : q.room ≠ r := by simpa [eq] using outside
      exact absurd (off q eq) elsewhere

theorem State.staffAt.decided (h : s.staffAt p.credential) : (s.decideStaffSlot r p w).seated := by
  unfold State.decideStaffSlot
  split
  · next y slot =>
    refine h.seated.collects h.staff slot fun q eq => ?_
    rw [State.presenceOf_eq_none.mpr (State.inside_eq_zero.mp h.off)] at eq
    cases eq
  · next l slot =>
    split
    · next another =>
      split
      · refine h.admitted false fun _ => ?_
        rw [slot]
        simp [Slot.seats, another.2]
      · exact (Leaves.issue s _).seated h.seated
    · split
      · exact h.admitted true nofun
      · exact h.leads .waiting _ _
  · split
    · exact h.admitted true nofun
    · exact h.leads .waiting _ _

end

/-! ## Passback, and the entry readers -/

/-- Passback takes the presenter off the roll, and nobody gains a seat. -/
theorem State.seated.passback {s t : State} {r : RoomId} {p : Presentation} (h : s.seated) (passed : s.passback r p = some t) :
    Leaves s t ∧ t.inside p.credential = 0 := by
  unfold State.passback at passed
  split at passed
  · next absent =>
    obtain rfl := Option.some.inj passed
    exact ⟨Leaves.refl s, State.inside_eq_zero.mpr (State.presenceOf_eq_none.mp absent)⟩
  · next q held =>
    obtain ⟨mem, own⟩ := State.presenceOf_some held
    split at passed
    · cases passed
    · obtain rfl := Option.some.inj passed
      refine ⟨(Leaves.raise s _ _ _ _).trans (Leaves.depart _ _ _ _), Nat.le_zero.mp ?_⟩
      refine ((Leaves.departed .passback (s.raise (some r) (some p.credential) (some (fieldAddress p.reader))
        (.passback q.room q.entryMinute)) q.room (fun x => x.credential == q.credential)).inside p.credential).trans ?_
      have unique : (s.roll.map Presence.credential).Nodup := h.onePlace.rollOnce
      refine (State.inside_eq_zero.mpr fun x hx same => ?_).le
      obtain ⟨hx, kept⟩ := List.mem_filter.mp hx
      obtain rfl := List.inj_on_of_nodup_map unique hx mem (same.trans own.symm)
      simp at kept

theorem State.seated.decideStaff {s : State} {r : RoomId} {p : Presentation} {w : Staff} (h : s.seated)
    (staff : s.staffOf p.credential = some w) : (s.decideStaff r p w).seated := by
  have onRoster : (s.staffOf p.credential).isSome = true := by rw [staff]; rfl
  have denied (x : Reason) : (s.denyPlain r p x).seated := (Leaves.issue s _).seated h
  unfold State.decideStaff
  split
  · exact denied _
  · split
    · exact denied _
    · split
      · next collects =>
        obtain ⟨party, inside⟩ := Bool.and_eq_true_iff.mp collects
        unfold State.decideStaffSlot
        split
        · next y slot =>
          refine h.collects onRoster slot fun q eq => ?_
          simpa [eq] using inside
        · next slot => simp [slot, Slot.isParty] at party
        · next slot => simp [slot, Slot.isParty] at party
      · split
        · exact denied _
        · next t passed =>
          obtain ⟨leaves, off⟩ := h.passback passed
          exact State.staffAt.decided ⟨leaves.seated h, by rwa [leaves.staffOf], off⟩

theorem State.seated.decideContractor {s : State} {r : RoomId} {p : Presentation} {w : Permit} (h : s.seated)
    (noStaff : s.staffOf p.credential = none) (permit : s.permitOf p.credential = some w) :
    (s.decideContractor r p w).seated := by
  have denied (n : Nat) (g : Option Nat) (x : Reason) : Leaves s (s.denyContractor r p n g x) := Leaves.issue s _
  unfold State.decideContractor
  split
  · exact (Leaves.issue s _).seated h
  · next absent =>
    have notHere : (s.slot r).holdsMember p.credential = false := by
      unfold State.waitingHere at absent
      cases slot : s.slot r with
      | party y => simpa [slot, Slot.holdsMember] using absent
      | _ => rfl
    split
    · exact (denied _ _ _).seated h
    · split
      · exact ((denied _ _ _).trans (Leaves.raise _ _ _ _ _)).seated h
      · split
        · split
          · exact (denied _ _ _).seated h
          · exact (denied _ _ _).seated h
        · split
          · exact (denied _ _ _).seated h
          · next t passed =>
            obtain ⟨leaves, off⟩ := h.passback passed
            refine State.contractorAt.escorted ⟨leaves.seated h, by rwa [leaves.staffOf], ?_, off, ?_⟩
            · rw [leaves.permitOf, permit]
              rfl
            · by_contra member
              exact Bool.false_ne_true (notHere.symm.trans (leaves.members r _ (by simpa using member)))

theorem State.seated.decideEntry {s : State} {r : RoomId} {p : Presentation} (h : s.seated) : (s.decideEntry r p).seated := by
  have denied (x : Reason) : (s.denyPlain r p x).seated := (Leaves.issue s _).seated h
  unfold State.decideEntry
  split
  · exact denied _
  · split
    · exact denied _
    · split
      · next staff => exact h.decideStaff staff
      · next noStaff =>
        split
        · next permit => exact h.decideContractor noStaff permit
        · exact denied _

theorem takeOffRoll_leaves (s : State) (r : RoomId) (c : Nat) : Leaves s (s.takeOffRoll r c).1 := by
  unfold State.takeOffRoll
  split
  · exact Leaves.refl s
  · split
    · exact Leaves.depart _ s _ _
    · exact (Leaves.depart _ s _ _).trans (Leaves.of_keeps (setRollState_keeps _ _ _))

theorem State.seated.screen {s : State} {p : Presentation} (h : s.seated) : (s.screen p).seated := by
  unfold State.screen
  split
  · next r _ =>
    split
    · exact h.decideEntry
    · exact (Leaves.issue s _).seated h
  · next r _ =>
    split
    · split
      · exact (((takeOffRoll_leaves s r _).trans (Leaves.release _ r .exit)).trans (Leaves.issue _ _)).seated h
      · exact (Leaves.ite ((Leaves.changeRecord s _ _).trans (Leaves.issue _ _)) (Leaves.issue s _)).seated h
    · exact ((Leaves.release s r .exit).trans (Leaves.issue _ _)).seated h
  · split
    · exact (Leaves.of_keeps (unassignedReader_keeps s p)).seated h
    · exact (Leaves.issue s _).seated h

theorem State.seated.present {s : State} {p : Presentation} (h : s.seated) : (s.present p).seated := by
  have noted : Leaves s (s.remember p) := Leaves.of_keeps (withLastSeen_keeps s _)
  unfold State.present
  split
  · exact h
  · exact (noted.seated h).screen

end Sys2Proof.Machine

/-! PROOF. Each person in one place through every step (O9). -/

namespace Sys2Proof.Machine

set_option Elab.async false

theorem mem_allRooms (r : RoomId) : r ∈ allRooms := by
  revert r
  decide

theorem mem_allStations (a : StationId) : a ∈ allStations := by
  revert a
  decide

/-! ## The field line -/

namespace Leaves

variable (s : State) (a : StationId)

theorem tellDoor {notice : State → RoomId → State} (told : ∀ r, Leaves s (notice s r)) : Leaves s (s.tellDoor a notice) := by
  unfold State.tellDoor
  split
  · exact told _
  · exact refl s

theorem countMiss (cause : CarryCause) : Leaves s (s.countMiss a cause) := by
  have counted (x : StationState) : Leaves s (s.setStation a x) := of_keeps (setStation_keeps s a x)
  unfold State.countMiss
  dsimp only
  split
  · exact counted _
  · split
    · exact ((counted _).trans (raise _ _ _ _ _)).trans (tellDoor _ a fun r => driverOffline _ r)
    · exact refl s

theorem visitFailed (cause : CarryCause) : Leaves s (s.visitFailed a cause) :=
  ((countMiss s a cause).trans (of_keeps (failRiding_keeps _ cause))).trans (of_keeps (endVisit_keeps _))

theorem replyMissed (visit : Visit) : Leaves s (s.replyMissed visit) :=
  (of_keeps (advance_keeps s _)).trans (visitFailed _ _ _)

end Leaves

theorem State.seated.replyTaken {s : State} (h : s.seated) (a : StationId) (reply : FieldReply) :
    (s.replyTaken a reply).seated := by
  have answered : Leaves s (s.stationAnswered a).deliverCarry :=
    (Leaves.of_keeps (stationAnswered_keeps s a)).trans (Leaves.of_keeps (deliverCarry_keeps _))
  have after (t : State) (payload : Option (List Byte)) : Leaves t (t.takeCarryUp a payload).endVisit :=
    (Leaves.of_keeps (takeCarryUp_keeps t a payload)).trans (Leaves.of_keeps (endVisit_keeps _))
  refine (after _ reply.carryUp).seated ?_
  cases body : reply.body with
  | nothing => exact answered.seated h
  | presentation => exact (answered.seated h).present
  | events list =>
    exact (answered.trans (Leaves.tellDoor _ a (notice := fun t r => t.driverEvents r list)
      fun r => Leaves.driverEvents _ r list)).seated h

theorem State.seated.frameEnded {s : State} (h : s.seated) (visit : Visit) (moment : Nat) (j : Judgement) :
    (s.frameEnded visit moment j).seated := by
  have ended : Leaves s (s.advance moment) := Leaves.of_keeps (advance_keeps s moment)
  cases j with
  | unfinished => exact h
  | ignored => exact (Leaves.ite (ended.trans (Leaves.visitFailed _ _ _)) ended).seated h
  | bad => exact (ended.trans (Leaves.visitFailed _ _ _)).seated h
  | good => exact (ended.seated h).replyTaken _ _

/-! ## The tables -/

/-- Changed tables that keep the records of party members and leads, and stay apart. -/
theorem State.seated.withTables {s t : State} (h : s.seated) (roll : t.roll = s.roll) (slots : t.slots = s.slots)
    (apart : ∀ p ∈ t.permits, ∀ u ∈ t.roster, p.credential ≠ u.credential)
    (held : ∀ r c, (s.slot r).holdsMember c = true → c ∈ t.permits.map Permit.credential)
    (staffed : ∀ r c, (s.slot r).leads c → c ∈ t.roster.map Staff.credential) : t.seated := by
  have slot (r : RoomId) : t.slot r = s.slot r := by rw [State.slot, slots, State.slot]
  refine ⟨apart, fun r c member => ?_, fun r c lead => ?_, fun c => ?_⟩
  · rw [slot] at member
    exact permitOf_isSome.mpr (held r c member)
  · rw [slot] at lead
    exact staffOf_isSome.mpr (staffed r c lead)
  · have same : t.seats c = s.seats c := by simp only [State.seats, State.inside, roll, slot]
    exact same ▸ h.once c

theorem State.seated.members {s : State} (h : s.seated) {r : RoomId} {c : Nat} (member : (s.slot r).holdsMember c = true) :
    c ∈ s.permits.map Permit.credential := permitOf_isSome.mp (h.membersHeld r c member)

theorem State.seated.leads {s : State} (h : s.seated) {r : RoomId} {c : Nat} (lead : (s.slot r).leads c) :
    c ∈ s.roster.map Staff.credential := staffOf_isSome.mp (h.leadsHeld r c lead)

theorem State.contractorPosition_outside {s : State} {c : Nat} (h : s.contractorPosition c = .outside) (r : RoomId) :
    (s.slot r).holdsMember c = false := by
  unfold State.contractorPosition at h
  split at h
  · cases h
  · split at h
    · cases h
    · next none =>
      simpa using List.find?_eq_none.mp none r (mem_allRooms r)

theorem State.staffPosition_outside {s : State} {c : Nat} (h : s.staffPosition c = .outside) (r : RoomId) :
    ¬ (s.slot r).leads c := by
  unfold State.staffPosition at h
  split at h
  · cases h
  · split at h
    · cases h
    · next none =>
      rintro ⟨l, eq, staff⟩
      have here := List.findSome?_eq_none_iff.mp none r (mem_allRooms r)
      simp [eq, staff] at here

@[simp] theorem Permit.placed_credential (p : Permit) (free : List Nat) : (p.placed free).credential = p.credential := rfl

theorem State.seated.answered {t : State} (h : t.seated) (status : Status) (data : AnswerData) :
    (Machine.answered t status data).state.seated := h

theorem Leaves.withdrawn (s : State) (c : Nat) (x : PermitState) : Leaves s ((s.setPermitState c x).withdraw c x) :=
  (setPermitState s c x).trans (withdraw _ c x)

section
variable {u : State} (h : u.seated) (q : Request)
include h

/-- Permit records taken out that no party member has. -/
theorem State.seated.fewerPermits {keep : Permit → Bool}
    (unused : ∀ p ∈ u.permits, keep p = false → ∀ r, (u.slot r).holdsMember p.credential = false) :
    (u.withPermits (u.permits.filter keep)).seated := by
  refine h.withTables rfl rfl (fun p hp => h.apart p (List.mem_filter.mp hp).1) (fun r c member => ?_) fun r c => h.leads
  obtain ⟨p, hp, rfl⟩ := List.mem_map.mp (h.members member)
  refine List.mem_map_of_mem (List.mem_filter.mpr ⟨hp, ?_⟩)
  by_contra gone
  exact Bool.false_ne_true ((unused p hp (by simpa using gone) r).symm.trans member)

/-- A permit record put in, in place of the one of its credential. -/
theorem State.seated.replacePermit {stored : Permit} {c : Nat} (own : stored.credential = c)
    (apart : ∀ t ∈ u.roster, c ≠ t.credential) :
    (u.withPermits (insertPermit stored (removePermit c u.permits))).seated := by
  refine h.withTables rfl rfl (fun p hp => ?_) (fun r d member => ?_) fun r c => h.leads
  · obtain rfl | hp := (mem_insertPermit _ _ _).mp hp
    · exact own ▸ apart
    · exact h.apart p (List.mem_filter.mp hp).1
  · obtain ⟨p, hp, rfl⟩ := List.mem_map.mp (h.members member)
    by_cases replaced : p.credential = c
    · exact List.mem_map.mpr ⟨stored, (mem_insertPermit _ _ _).mpr (.inl rfl), own.trans replaced.symm⟩
    · exact List.mem_map_of_mem ((mem_insertPermit _ _ _).mpr
        (.inr (List.mem_filter.mpr ⟨hp, by simpa using replaced⟩)))

theorem State.storePermit_seated (kind : LoadKind) {record : Permit}
    (apart : ∀ t ∈ u.roster, record.credential ≠ t.credential) : (u.storePermit kind record).state.seated := by
  fun_cases State.storePermit
  · exact h
  · next others free needed short stored s1 =>
    have own : stored.credential = record.credential := Permit.placed_credential record free
    have put : s1.seated := h.replacePermit own apart
    exact put.answered _ _

theorem loadPermitRule_seated : (loadPermitRule q u).state.seated := by
  fun_cases loadPermitRule
  case case3 t read free absent =>
    have noStaff : u.staffOf t.credential = none := by simpa using free
    exact State.storePermit_seated h _ fun v hv => (State.staffOf_eq_none.mp noStaff v hv).symm
  case case4 t read free old held =>
    have noStaff : u.staffOf t.credential = none := by simpa using free
    have same : old.credential = t.credential := (State.permitOf_some held).2
    exact State.storePermit_seated h _ fun v hv => same ▸ (State.staffOf_eq_none.mp noStaff v hv).symm
  all_goals exact h

theorem dropPermitRule_seated : (dropPermitRule q u).state.seated := by
  fun_cases dropPermitRule
  case case3 c _ p held out =>
    refine h.fewerPermits (keep := fun p => p.credential != c) fun p _ gone r => ?_
    have same : p.credential = c := by simpa using gone
    exact same ▸ State.contractorPosition_outside out r
  all_goals exact h

theorem purgePermitsRule_seated : (purgePermitsRule q u).state.seated := by
  fun_cases purgePermitsRule
  case case3 =>
    refine h.fewerPermits (keep := fun p => !u.purgeable p) fun p _ gone r => ?_
    have purged : u.purgeable p = true := by simpa using gone
    have out : u.contractorPosition p.credential = .outside := by
      simpa using (Bool.and_eq_true_iff.mp purged).2
    exact State.contractorPosition_outside out r
  all_goals exact h

theorem loadEscortRule_seated : (loadEscortRule q u).state.seated := by
  have stored (t : Staff) (absent : ¬ (u.permitOf t.credential).isSome = true) :
      (u.withRoster (insertStaff t (removeStaff t.credential u.roster))).seated := by
    have noPermit : u.permitOf t.credential = none := by simpa using absent
    refine h.withTables rfl rfl (fun p hp v hv => ?_) (fun r c => h.members) fun r c lead => ?_
    · obtain rfl | hv := List.mem_cons.mp ((insertStaff_perm t _).mem_iff.mp hv)
      · exact State.permitOf_eq_none.mp noPermit p hp
      · exact h.apart p hp v (List.mem_filter.mp hv).1
    · obtain ⟨v, hv, rfl⟩ := List.mem_map.mp (h.leads lead)
      refine List.mem_map.mpr ?_
      by_cases replaced : v.credential = t.credential
      · exact ⟨t, (insertStaff_perm t _).mem_iff.mpr (by simp), replaced.symm⟩
      · exact ⟨v, (insertStaff_perm t _).mem_iff.mpr
          (List.mem_cons_of_mem _ (List.mem_filter.mpr ⟨hv, by simpa using replaced⟩)), rfl⟩
  fun_cases loadEscortRule
  case case3 t _ absent _ _ _ => exact stored t absent
  case case4 t _ absent _ _ _ => exact stored t absent
  all_goals exact h

theorem dropEscortRule_seated : (dropEscortRule q u).state.seated := by
  fun_cases dropEscortRule
  case case3 c _ v held out _ =>
    refine h.withTables rfl rfl (fun p hp v hv => h.apart p hp v (List.mem_filter.mp hv).1) (fun r c => h.members)
      fun r d lead => ?_
    obtain ⟨v, hv, rfl⟩ := List.mem_map.mp (h.leads lead)
    refine List.mem_map_of_mem (List.mem_filter.mpr ⟨hv, ?_⟩)
    by_contra gone
    have same : v.credential = c := by simpa using gone
    exact State.staffPosition_outside out r (same ▸ lead)
  all_goals exact h

theorem clearTablesRule_seated : (clearTablesRule q u).state.seated := by
  fun_cases clearTablesRule
  case case3 _ unused _ =>
    simp only [not_or, Nat.not_lt, Nat.le_zero] at unused
    obtain ⟨-, parties, leads⟩ := unused
    refine h.withTables rfl rfl (fun p hp => nomatch hp) (fun r c member => ?_) fun r c ⟨l, eq, _⟩ => ?_
    · obtain ⟨y, eq, -⟩ := Slot.holdsMember_iff.mp member
      simpa [eq, Slot.isParty] using List.countP_eq_zero.mp parties r (mem_allRooms r)
    · simpa [eq, Slot.isLead] using List.countP_eq_zero.mp leads r (mem_allRooms r)
  all_goals exact h

theorem suspendPermitRule_seated : (suspendPermitRule q u).state.seated := by
  fun_cases suspendPermitRule
  case case3 c _ _ _ _ => exact ((Leaves.withdrawn u c .suspended).seated h).answered _ _
  all_goals exact h

theorem revokePermitRule_seated : (revokePermitRule q u).state.seated := by
  fun_cases revokePermitRule
  case case4 c _ _ _ _ => exact ((Leaves.withdrawn u c .revoked).seated h).answered _ _
  all_goals exact h

theorem resumePermitRule_seated : (resumePermitRule q u).state.seated := by
  fun_cases resumePermitRule
  case case4 c _ _ _ _ => exact (Leaves.setPermitState u c .active).seated h
  all_goals exact h

theorem setRoomRule_seated : (setRoomRule q u).state.seated := by
  fun_cases setRoomRule
  case case4 r new _ _ _ _ => exact (Leaves.applyRoom u r new).seated h
  all_goals exact h

theorem setRoomModeRule_seated : (setRoomModeRule q u).state.seated := by
  fun_cases setRoomModeRule
  case case4 r new _ _ _ _ => exact (Leaves.changeMode u r new).seated h
  all_goals exact h

theorem reconcileRoomRule_seated : (reconcileRoomRule q u).state.seated := by
  fun_cases reconcileRoomRule
  case case3 r named _ _ _ _ _ => exact (Leaves.reconcile u r named).seated h
  all_goals exact h

end

/-! ## Every step -/

theorem fresh_seated (s : State) (permits : s.permits = []) (roll : s.roll = [])
    (slots : s.slots = Vector.replicate 6 .empty) : s.seated := by
  have slot (r : RoomId) : s.slot r = .empty := by rw [State.slot, slots, look_replicate]
  refine ⟨fun p hp => ?_, fun r c member => ?_, fun r c ⟨l, eq, _⟩ => ?_, fun c => ?_⟩
  · rw [permits] at hp
    cases hp
  · rw [slot] at member
    cases member
  · rw [slot] at eq
    cases eq
  · simp [State.seats, State.inside, slot, roll]

theorem secondTick_leaves {staleFirst : Bool} {s t : State} (run : execSecondTick staleFirst s = .next t) : Leaves s t := by
  obtain rfl := Host.Outcome.next.inj run
  have counted (c : Clock) : Leaves s ((s.advance s.clock.nextCount).withClock c) :=
    (Leaves.of_keeps (advance_keeps s _)).trans (Leaves.of_keeps (withClock_keeps _ c))
  have stale (u : State) : Leaves u u.staleness := Leaves.of_keeps (staleness_keeps u)
  refine Leaves.ite (Leaves.ite ((counted s.clock.nextMinute).trans ?_) (counted _)) (Leaves.refl s)
  exact Leaves.ite ((stale _).trans (Leaves.rollMinute _ _)) ((Leaves.rollMinute _ _).trans (stale _))

theorem leadWindowExpiry_leaves {r : RoomId} {s t : State} (run : execLeadWindowExpiry r s = .next t) : Leaves s t := by
  obtain rfl := Host.Outcome.next.inj run
  refine Leaves.ite ?_ (Leaves.refl s)
  split
  · next l _ =>
    have cleared := (Leaves.of_keeps (advance_keeps s l.window.ends)).trans (Leaves.clearSlot _ r)
    dsimp only
    split
    · exact cleared
    · exact cleared.trans (Leaves.issue _ _)
  · exact Leaves.refl s

theorem exec_seated (i : Instr) (s t : State) (h : s.seated) (run : exec i s = .next t) : t.seated := by
  by_cases touched : Field.permits ∈ touchedBy i ∨ Field.roster ∈ touchedBy i ∨ Field.roll ∈ touchedBy i ∨
      Field.slots ∈ touchedBy i
  · have took (rest : List Request) : (s.taken rest).seated := (Leaves.of_keeps (withTrunk_keeps s _)).seated h
    have answered (u : State) (q : Request) (status : Status) (data : AnswerData) (h : u.seated) :
        (u.answer q status data).seated := (Leaves.of_keeps (answer_keeps u q status data)).seated h
    cases i with
    | powerOnReset | restartReset | settingsLoadEnd =>
      exact renewal_keeping rfl run h (fun _ _ => fresh_seated _ rfl rfl rfl) fun _ => fresh_seated _ rfl rfl rfl
    | loadPermit => exact request_keeping run h (fun q rest => loadPermitRule_seated (took rest) q) answered
    | dropPermit => exact request_keeping run h (fun q rest => dropPermitRule_seated (took rest) q) answered
    | suspendPermit => exact request_keeping run h (fun q rest => suspendPermitRule_seated (took rest) q) answered
    | resumePermit => exact request_keeping run h (fun q rest => resumePermitRule_seated (took rest) q) answered
    | revokePermit => exact request_keeping run h (fun q rest => revokePermitRule_seated (took rest) q) answered
    | purgePermits => exact request_keeping run h (fun q rest => purgePermitsRule_seated (took rest) q) answered
    | loadEscort => exact request_keeping run h (fun q rest => loadEscortRule_seated (took rest) q) answered
    | dropEscort => exact request_keeping run h (fun q rest => dropEscortRule_seated (took rest) q) answered
    | clearTables => exact request_keeping run h (fun q rest => clearTablesRule_seated (took rest) q) answered
    | setRoom => exact request_keeping run h (fun q rest => setRoomRule_seated (took rest) q) answered
    | setRoomMode => exact request_keeping run h (fun q rest => setRoomModeRule_seated (took rest) q) answered
    | reconcileRoom => exact request_keeping run h (fun q rest => reconcileRoomRule_seated (took rest) q) answered
    | secondTick => exact (secondTick_leaves run).seated h
    | leadWindowExpiry => exact (leadWindowExpiry_leaves run).seated h
    | visitTimeout =>
      obtain rfl := Host.Outcome.next.inj run
      refine (Leaves.ite ?_ (Leaves.refl s)).seated h
      split
      · exact Leaves.replyMissed s _
      · exact Leaves.refl s
    | fieldGapAbandon =>
      obtain rfl := Host.Outcome.next.inj run
      refine (Leaves.ite ?_ (Leaves.refl s)).seated h
      split
      · exact (Leaves.of_keeps (advance_keeps s _)).trans (Leaves.visitFailed _ _ _)
      · exact Leaves.refl s
    | partyWindowExpiry =>
      obtain rfl := Host.Outcome.next.inj run
      refine (Leaves.ite ?_ (Leaves.refl s)).seated h
      split
      · exact (Leaves.of_keeps (advance_keeps s _)).trans (Leaves.breakSlot _ _ _)
      · exact Leaves.refl s
    | fieldFrame =>
      obtain rfl := Host.Outcome.next.inj run
      split
      · split
        · exact h
        · dsimp only
          split
          · exact h.frameEnded _ _ _
          · exact (Leaves.replyMissed s _).seated h
      · exact h
    | _ => exact absurd touched (by simp [touchedBy])
  · simp only [not_or] at touched
    exact (Leaves.of_keeps (exec_keeps run) touched).seated h

/-- Settles O9: counted in seats on the roll, in the parties and as a WAITING lead, each person has one at most: a decision gives its
presenter one and takes the others, and every other command only takes seats. -/
theorem eachPersonInOnePlace : Obligations.EachPersonInOnePlace := by
  intro s t h run
  refine (step_keeping (P := State.seated) (fun s l h => ?_) exec_seated s t h.seated run).onePlace
  exact h.withTables rfl rfl h.apart (fun r c => h.members) fun r c => h.leads

end Sys2Proof.Machine

/-! PROOF. The settings written down as an image and read back (11 R180, R182): every value in force passes the checks of the load,
and comes back as it was (O10). -/

namespace Sys2Proof.Machine

set_option Elab.async false

/-! ## Part settings -/

@[simp] theorem PartSettings.fields_value (p : PartSettings) : p.fields.value = p := by
  obtain ⟨epoch, mode, shift, suppression, policy, window, speed, timeout, silence⟩ := p
  cases mode <;> cases policy <;> cases speed <;> rfl

theorem PartFields.value_fields {f : PartFields} (h : f.firstBad = none) : f.value.fields = f := by
  obtain ⟨epoch, mode, shift, suppression, policy, window, speed, timeout, silence⟩ := f
  simp only [PartFields.firstBad, firstBad_eq_none, List.mem_cons, List.not_mem_nil, forall_eq_or_imp, within,
    Bool.and_eq_true, Bool.or_eq_true, decide_eq_true_eq, beq_iff_eq] at h
  obtain ⟨-, mode16, -, -, ⟨-, policy1⟩, -, ⟨-, speed2⟩, -⟩ := h
  have modes : (if mode = 16 then GroupMode.groups16 else GroupMode.groups32).size = mode := by
    obtain rfl | rfl := mode16 <;> rfl
  have policies : (match (if policy = 0 then ReaderPolicy.forward else .drop) with
      | .forward => 0
      | .drop => 1) = policy := by
    obtain rfl | rfl : policy = 0 ∨ policy = 1 := by omega
    · rfl
    · rfl
  have speeds : (speedOfCode speed).code = speed := by
    obtain rfl | rfl | rfl : speed = 0 ∨ speed = 1 ∨ speed = 2 := by omega
    · rfl
    · rfl
    · rfl
  simp only [PartFields.value, PartSettings.fields, modes, speeds, PartFields.mk.injEq, true_and, and_true]
  exact policies

/-! ## Room settings -/

theorem byteOfSigned_signedByte {n : Nat} (h : n ≤ 255) : byteOfSigned (signedByte n) = n := by
  unfold byteOfSigned signedByte
  split <;> split <;> omega

theorem signedByte_byteOfSigned {x : Int} (h : byteOfSigned x ≤ 255) : signedByte (byteOfSigned x) = x := by
  unfold byteOfSigned at h ⊢
  split at h
  · next range =>
    rw [if_pos range, signedByte]
    split <;> omega
  · omega

theorem RoomSettings.fields_value {r : RoomSettings} (h : r.fields.firstBad = none) : r.fields.value = r := by
  simp only [RoomFields.firstBad, firstBad_eq_none, List.mem_cons, List.not_mem_nil, forall_eq_or_imp, within,
    Bool.and_eq_true, decide_eq_true_eq] at h
  obtain ⟨-, -, -, -, -, -, -, -, ⟨dwell, -⟩, -⟩ := h
  obtain ⟨enabled, code, entry, exit, driver, limit, passback, held, offset, interval, first, second⟩ := r
  have offsets : signedByte (byteOfSigned offset) = offset := signedByte_byteOfSigned dwell
  cases enabled <;> cases passback <;> simp [RoomSettings.fields, RoomFields.value, offsets, yesNo]

theorem RoomFields.value_fields {f : RoomFields} (h : f.firstBad = none) : f.value.fields = f := by
  obtain ⟨enabled, code, entry, exit, driver, limit, passback, held, offset, interval, first, second⟩ := f
  simp only [RoomFields.firstBad, firstBad_eq_none, List.mem_cons, List.not_mem_nil, forall_eq_or_imp, within,
    Bool.and_eq_true, decide_eq_true_eq] at h
  obtain ⟨⟨-, enabled1⟩, -, -, -, -, -, ⟨-, passback1⟩, -, ⟨dwell, -⟩, -, ⟨-, first7⟩, ⟨-, second7⟩, -⟩ := h
  have enableds : yesNo (decide (enabled = 1)) = enabled := by
    obtain rfl | rfl : enabled = 0 ∨ enabled = 1 := by omega
    · rfl
    · rfl
  have passbacks : (match (if passback = 0 then Passback.hard else .soft) with
      | .hard => 0
      | .soft => 1) = passback := by
    obtain rfl | rfl : passback = 0 ∨ passback = 1 := by omega
    · rfl
    · rfl
  simp only [RoomFields.value, RoomSettings.fields, enableds, byteOfSigned_signedByte dwell, Fin.val_ofNat,
    Nat.mod_eq_of_lt (Nat.lt_succ_of_le first7), Nat.mod_eq_of_lt (Nat.lt_succ_of_le second7), RoomFields.mk.injEq,
    true_and, and_true]
  exact passbacks

/-! ## Stations -/

@[simp] theorem StationSettings.fields_value (t : StationSettings) : t.fields.value = t := by
  obtain ⟨kind, enabled⟩ := t
  cases kind <;> cases enabled <;> rfl

theorem StationSettings.fields_good (t : StationSettings) : t.fields.good = true := by
  obtain ⟨kind, enabled⟩ := t
  cases kind <;> cases enabled <;> rfl

/-! ## Programs (07 R128) -/

@[simp] theorem Step.fields_value (x : Step) : x.fields.value = x := by cases x <;> rfl

theorem Step.fields_code (x : Step) : 1 ≤ x.fields.code ∧ x.fields.code ≤ 9 := by cases x <;> simp [Step.fields]

/-- The EMPTY positions after a program end it. -/
theorem storedPositions_append (steps : List Step) (n : Nat) :
    storedPositions (steps.map Step.fields ++ List.replicate n ⟨0, 0⟩) = steps.map Step.fields := by
  induction steps with
  | nil => cases n <;> rfl
  | cons x steps ih =>
    have code := (Step.fields_code x).1
    simp only [storedPositions, List.map_cons, List.cons_append, List.takeWhile_cons] at ih ⊢
    rw [if_pos (by simp; omega), ih]

@[simp] theorem stepsOf_positionsOf (steps : List Step) : stepsOf (positionsOf steps) = steps := by
  rw [stepsOf, positionsOf, storedPositions_append, List.map_map]
  simp [Function.comp_def]

theorem badPosition_empty (k : Nat) (stored : Bool) (n : Nat) : badPosition k stored (List.replicate n ⟨0, 0⟩) = none := by
  induction n generalizing k stored with
  | zero => rfl
  | succ n ih => simpa [List.replicate_succ, badPosition] using ih _ _

theorem badPosition_program (k : Nat) {steps : List Step} (ranges : ∀ x ∈ steps, x.inRange) (n : Nat) :
    badPosition k true (steps.map Step.fields ++ List.replicate n ⟨0, 0⟩) = none := by
  induction steps generalizing k with
  | nil => exact badPosition_empty k true n
  | cons x steps ih =>
    have code := Step.fields_code x
    have range : x.inRange := ranges x (by simp)
    have counted : (x.fields.code == 9 && !within 1 x.fields.count 127) = false := by
      cases x with
      | wait n =>
        obtain ⟨low, high⟩ := range
        simp [Step.fields, within, low, high]
      | _ => rfl
    simp only [List.map_cons, List.cons_append, badPosition]
    rw [if_neg (by omega)]
    have stored : (true && x.fields.code != 0) = true := by simp; omega
    rw [stored, Bool.true_and, counted]
    simpa using ih (k + 2) fun y hy => ranges y (by simp [hy])

/-- The positions of a program of at most 8 steps, their counts in range, pass the checks. -/
theorem programGood_positionsOf {steps : List Step} (short : steps.length ≤ 8) (ranges : ∀ x ∈ steps, x.inRange) :
    programGood (positionsOf steps) = true := by
  have empty : (positionsOf steps).dropWhile (fun p => p.code != 0) = List.replicate (8 - steps.length) ⟨0, 0⟩ := by
    have split := List.takeWhile_append_dropWhile (p := fun p : StepFields => p.code != 0) (l := positionsOf steps)
    have stored := storedPositions_append steps (8 - steps.length)
    rw [storedPositions] at stored
    rw [positionsOf, stored] at split
    rw [positionsOf]
    exact List.append_cancel_left split
  have length : (positionsOf steps).length = 8 := by
    simp only [positionsOf, List.length_append, List.length_map, List.length_replicate]
    omega
  have checked : badPosition 0 true (positionsOf steps) = none := badPosition_program 0 ranges _
  simp [programGood, length, empty, checked]

/-- Steps read from checked positions are in range. -/
theorem stepsOf_inRange {k : Nat} {positions : List StepFields} (h : badPosition k true positions = none) :
    ∀ x ∈ stepsOf positions, x.inRange := by
  induction positions generalizing k with
  | nil => simp [stepsOf, storedPositions]
  | cons p rest ih =>
    by_cases empty : p.code = 0
    · simp [stepsOf, storedPositions, empty]
    · simp only [badPosition, Bool.true_and] at h
      have stored : (p.code != 0) = true := by simpa using empty
      rw [stored, Bool.true_and] at h
      split at h
      · cases h
      · next code =>
        split at h
        · cases h
        · next count =>
          intro x hx
          simp only [stepsOf, storedPositions, List.takeWhile_cons, stored, if_true, List.map_cons, List.mem_cons] at hx
          obtain rfl | hx := hx
          · by_cases wait : p.code = 9
            · have range : within 1 p.count 127 = true := by simpa [wait] using count
              simp only [within, Bool.and_eq_true, decide_eq_true_eq] at range
              simpa only [StepFields.value, wait, Step.inRange] using range
            · have actions : p.code = 1 ∨ p.code = 2 ∨ p.code = 3 ∨ p.code = 4 ∨ p.code = 5 ∨ p.code = 6 ∨ p.code = 7 ∨
                  p.code = 8 := by omega
              obtain e | e | e | e | e | e | e | e := actions <;> simp [StepFields.value, e, Step.inRange]
          · exact ih h x hx

theorem stepsOf_length (positions : List StepFields) : (stepsOf positions).length ≤ positions.length := by
  rw [stepsOf, List.length_map]
  exact (List.takeWhile_sublist _).length_le

/-- What is stored of checked positions passes the checks again. -/
theorem programGood_stepsOf {k : Nat} {positions : List StepFields} (h : badPosition k true positions = none)
    (length : positions.length = 8) : programGood (positionsOf (stepsOf positions)) = true :=
  programGood_positionsOf (length ▸ stepsOf_length positions) (stepsOf_inRange h)

/-! ## Settings that the load takes (11 R180) -/

/-- The settings pass the checks that the load makes of an image of them. -/
structure Settings.sound (x : Settings) : Prop where
  part : x.part.fields.firstBad = none
  rooms : ∀ r, (look x.rooms r).fields.firstBad = none
  unique : ∀ r, uniquenessFault x.rooms r (look x.rooms r) = none
  programs : ∀ n, programGood (positionsOf (look x.programs n)) = true

/-- A trunk address of a part: none, or one that a head-end gives (09 R155). -/
def trunkAddress (a : Nat) : Prop := a = Config.unassigned ∨ within 1 a 250 = true

theorem mem_allPrograms (n : ProgramId) : n ∈ allPrograms := by
  revert n
  decide

@[simp] theorem look_map {α β : Type} {n : Nat} (f : α → β) (v : Vector α n) (i : Fin n) :
    look (v.map f) i = f (look v i) := by
  simp [look, Vector.get]

theorem imageGood_iff (i : SettingsImage) : imageGood i = true ↔
    i.part.firstBad = none ∧ (∀ r, (look i.rooms r).firstBad = none) ∧
    (∀ r, uniquenessFault (i.rooms.map RoomFields.value) r (look i.rooms r).value = none) ∧
    (∀ a, (look i.stations a).good = true) ∧ (∀ n, programGood (look i.programs n) = true) ∧
    (∀ a, i.address = some a → within 1 a 250 = true) := by
  have rooms (f : RoomId → Bool) : allRooms.all f = true ↔ ∀ r, f r = true := by simp [List.all_eq_true, mem_allRooms]
  have stations (f : StationId → Bool) : allStations.all f = true ↔ ∀ r, f r = true := by
    simp [List.all_eq_true, mem_allStations]
  have programs (f : ProgramId → Bool) : allPrograms.all f = true ↔ ∀ r, f r = true := by
    simp [List.all_eq_true, mem_allPrograms]
  simp only [imageGood, Bool.and_eq_true, rooms, stations, programs, Option.isNone_iff_eq_none, and_assoc]
  cases i.address <;> simp

/-- The rooms of settings, read back from an image of them. -/
theorem Settings.sound.roomsBack {x : Settings} (h : ∀ r, (look x.rooms r).fields.firstBad = none) :
    (x.rooms.map RoomSettings.fields).map RoomFields.value = x.rooms :=
  table_ext fun r => by rw [look_map, look_map, RoomSettings.fields_value (h r)]

/-- The settings in force pass the checks exactly where the load would take the image of them. -/
theorem imageGood_imageOf (x : Settings) (address : Nat) :
    imageGood (imageOf x address) = true ↔ x.sound ∧ trunkAddress address := by
  rw [imageGood_iff]
  constructor
  · rintro ⟨part, rooms, unique, -, programs, held⟩
    simp only [imageOf, look_map] at part rooms unique programs held
    rw [Settings.sound.roomsBack rooms] at unique
    refine ⟨⟨part, rooms, fun r => ?_, programs⟩, ?_⟩
    · rw [← RoomSettings.fields_value (rooms r)]
      exact RoomSettings.fields_value (rooms r) ▸ unique r
    · by_cases none : address = Config.unassigned
      · exact .inl none
      · exact .inr (held address (by rw [if_neg none]))
  · rintro ⟨⟨part, rooms, unique, programs⟩, held⟩
    simp only [imageOf, look_map]
    refine ⟨part, rooms, fun r => ?_, fun a => StationSettings.fields_good _, programs, fun a some => ?_⟩
    · rw [Settings.sound.roomsBack rooms, RoomSettings.fields_value (rooms r)]
      exact unique r
    · split at some
      · cases some
      · next assigned =>
        obtain rfl := Option.some.inj some
        exact held.resolve_left assigned

/-- What a load takes from a good image passes the checks again. -/
theorem SettingsImage.settings_sound {i : SettingsImage} (h : imageGood i = true) : i.settings.sound := by
  obtain ⟨part, rooms, unique, -, programs, -⟩ := (imageGood_iff i).mp h
  refine ⟨?_, fun r => ?_, fun r => ?_, fun n => ?_⟩
  · simpa only [SettingsImage.settings, PartFields.value_fields part] using part
  · simpa only [SettingsImage.settings, look_map, RoomFields.value_fields (rooms r)] using rooms r
  · simpa only [SettingsImage.settings, look_map] using unique r
  · have good := programs n
    simp only [programGood, Bool.and_eq_true, beq_iff_eq, Option.isNone_iff_eq_none] at good
    obtain ⟨⟨length, positions⟩, -⟩ := good
    simpa only [SettingsImage.settings, look_map] using programGood_stepsOf positions length

/-- The image of the settings in force gives them back (11 R180, R182). -/
theorem imageOf_settings {x : Settings} (h : x.sound) (address : Nat) : (imageOf x address).settings = x := by
  obtain ⟨part, rooms, stations, programs⟩ := x
  have back := Settings.sound.roomsBack h.rooms
  have stationsBack : (stations.map StationSettings.fields).map StationFields.value = stations :=
    table_ext fun a => by rw [look_map, look_map, StationSettings.fields_value]
  have programsBack : (programs.map positionsOf).map stepsOf = programs :=
    table_ext fun n => by rw [look_map, look_map, stepsOf_positionsOf]
  simp only [imageOf, SettingsImage.settings, PartSettings.fields_value, stationsBack, programsBack]
  simpa using back

theorem State.settingsSound_iff {s : State} : s.settingsSound ↔ s.settings.sound ∧ trunkAddress s.trunk.address :=
  imageGood_imageOf _ _

theorem Settings.default_sound : Settings.default.sound := by
  have rooms (r : RoomId) : look Settings.default.rooms r = RoomSettings.default := look_replicate _ r
  refine ⟨by decide, fun r => ?_, fun r => ?_, by decide⟩
  · rw [rooms]
    decide
  · rw [rooms]
    rfl

/-! ## The changes of settings -/

/-- The part settings of a request pass the checks. -/
theorem partFields_ok {body : List Byte} {new : PartSettings} (h : partFields body = .ok new) :
    new.fields.firstBad = none := by
  unfold partFields at h
  split at h
  · cases h
  · dsimp only at h
    split at h
    · cases h
    · next good =>
      obtain rfl := Except.ok.inj h
      rw [PartFields.value_fields good]
      exact good
  · cases h

theorem setRoomFields_ok {body : List Byte} {r : RoomId} {new : RoomSettings} (h : setRoomFields body = .ok (r, new)) :
    new.fields.firstBad = none := by
  unfold setRoomFields at h
  split at h
  · cases h
  · dsimp only at h
    split at h
    · cases h
    · split at h
      · cases h
      · next good =>
        obtain ⟨-, rfl⟩ := Prod.mk.inj (Except.ok.inj h)
        rw [RoomFields.value_fields good]
        exact good
  · cases h

theorem programFields_ok {body : List Byte} {n : ProgramId} {steps : List Step} (h : programFields body = .ok (n, steps)) :
    programGood (positionsOf steps) = true := by
  unfold programFields at h
  split at h
  · cases h
  · split at h
    · cases h
    · cases h
    · next read =>
      dsimp only at h
      split at h
      · cases h
      · split at h
        · cases h
        · next good =>
          obtain ⟨-, rfl⟩ := Prod.mk.inj (Except.ok.inj h)
          exact programGood_stepsOf good (by simp [(readEntries_length read).1])

theorem assignFields_ok {body : List Byte} {serial address : Nat} (h : assignFields body = .ok (serial, address)) :
    trunkAddress address := by
  unfold assignFields at h
  split at h
  · cases h
  · split at h
    · next range =>
      obtain ⟨-, rfl⟩ := Prod.mk.inj (Except.ok.inj h)
      exact .inr range
    · cases h
  · cases h

end Sys2Proof.Machine

/-! PROOF. The settings in force stay such that the load takes them (O10). -/

namespace Sys2Proof.Machine

set_option Elab.async false

/-! ## One holder for each address (03 R45) -/

/-- The three addresses of a room. -/
def RoomSettings.addresses (x : RoomSettings) : List Nat := [x.entryReader, x.exitReader, x.lockDriver]

theorem RoomSettings.placeOf_eq_none {x : RoomSettings} {a : Nat} :
    x.placeOf a = none ↔ x.enabled = false ∨ a = 0 ∨ a ∉ x.addresses := by
  unfold RoomSettings.placeOf RoomSettings.addresses
  by_cases off : x.enabled = false
  · simp [off]
  · by_cases zero : a = 0
    · simp [zero]
    · by_cases entry : x.entryReader = a
      · simp [off, zero, entry]
      · by_cases exit : x.exitReader = a
        · simp [off, zero, entry, exit]
        · by_cases driver : x.lockDriver = a
          · simp [off, zero, entry, exit, driver]
          · simp [off, zero, entry, exit, driver, Ne.symm entry, Ne.symm exit, Ne.symm driver]

section
variable {rooms : Vector RoomSettings 6} {r q : RoomId} {a : Nat}

theorem holderElsewhere_eq_none : holderElsewhere rooms r a = none ↔ ∀ q, q ≠ r → (look rooms q).placeOf a = none := by
  simp only [holderElsewhere, List.findSome?_eq_none_iff]
  constructor
  · intro none q other
    have here := none q (mem_allRooms q)
    rw [if_neg other] at here
    exact Option.map_eq_none_iff.mp here
  · intro none q _
    split
    · rfl
    · next other => rw [none q other, Option.map_none]

theorem addressFault_congr {rooms' : Vector RoomSettings 6} {field : Nat} {needed : Bool} {earlier : List Nat}
    (same : a ≠ 0 → holderElsewhere rooms' r a = holderElsewhere rooms r a) :
    addressFault rooms' r field needed a earlier = addressFault rooms r field needed a earlier := by
  unfold addressFault
  split
  · rfl
  · next some => rw [same some]

/-- Only who else holds the room's addresses matters. -/
theorem uniquenessFault_congr {rooms' : Vector RoomSettings 6} {x : RoomSettings}
    (same : x.enabled = true → ∀ a ∈ x.addresses, a ≠ 0 → holderElsewhere rooms' r a = holderElsewhere rooms r a) :
    uniquenessFault rooms' r x = uniquenessFault rooms r x := by
  unfold uniquenessFault
  cases on : x.enabled with
  | false => rfl
  | true =>
    have same := same on
    rw [addressFault_congr (same x.entryReader (by simp [RoomSettings.addresses])),
      addressFault_congr (same x.exitReader (by simp [RoomSettings.addresses])),
      addressFault_congr (same x.lockDriver (by simp [RoomSettings.addresses]))]

theorem addressFault_eq_none {field : Nat} {needed : Bool} {earlier : List Nat}
    (h : addressFault rooms r field needed a earlier = none) (some : a ≠ 0) : holderElsewhere rooms r a = none := by
  unfold addressFault at h
  rw [if_neg some] at h
  split at h
  · cases h
  · next none => exact none

/-- A room that breaks nothing shares no address with another. -/
theorem uniquenessFault_eq_none {x : RoomSettings} (h : uniquenessFault rooms r x = none) (on : x.enabled = true)
    (mem : a ∈ x.addresses) (some : a ≠ 0) : holderElsewhere rooms r a = none := by
  unfold uniquenessFault at h
  rw [on] at h
  simp only [Bool.not_true, Bool.false_eq_true, if_false] at h
  split at h
  · cases h
  · next entry =>
    split at h
    · cases h
    · next exit =>
      simp only [RoomSettings.addresses, List.mem_cons, List.not_mem_nil, or_false] at mem
      obtain rfl | rfl | rfl := mem
      · exact addressFault_eq_none entry some
      · exact addressFault_eq_none exit some
      · exact addressFault_eq_none h some

/-- A room stored that breaks nothing leaves no room that breaks anything. -/
theorem put_unique {new : RoomSettings} (h : ∀ q, uniquenessFault rooms q (look rooms q) = none)
    (fits : uniquenessFault rooms r new = none) (q : RoomId) :
    uniquenessFault (put rooms r new) q (look (put rooms r new) q) = none := by
  by_cases room : q = r
  · subst room
    rw [look_put_self]
    refine (uniquenessFault_congr fun _ a _ _ => ?_).trans fits
    have same (k : RoomId) (other : k ≠ q) : look (put rooms q new) k = look rooms k :=
      look_put_other _ _ _ _ (Ne.symm other)
    unfold holderElsewhere
    refine congrArg (fun f => allRooms.findSome? f) (funext fun k => ?_)
    split
    · rfl
    · next other => rw [same k other]
  · rw [look_put_other _ _ _ _ (Ne.symm room)]
    refine (uniquenessFault_congr fun on a mem some => ?_).trans (h q)
    have free := uniquenessFault_eq_none (h q) on mem some
    rw [free, holderElsewhere_eq_none]
    intro k other
    by_cases changed : k = r
    · subst changed
      rw [look_put_self, RoomSettings.placeOf_eq_none]
      by_contra taken
      simp only [not_or, Bool.not_eq_false, not_not] at taken
      obtain ⟨newOn, -, newMem⟩ := taken
      have here := holderElsewhere_eq_none.mp (uniquenessFault_eq_none fits newOn newMem some) q room
      rw [RoomSettings.placeOf_eq_none] at here
      obtain off | zero | absent := here
      · exact Bool.false_ne_true (off.symm.trans on)
      · exact some zero
      · exact absent mem
    · rw [look_put_other _ _ _ _ (Ne.symm changed)]
      exact holderElsewhere_eq_none.mp free k other

end

/-! ## The requests that change settings -/

theorem setRoomRule_settings {q : Request} {u : State} (h : u.settings.sound) : (setRoomRule q u).state.settings.sound := by
  fun_cases setRoomRule
  case case4 r new read _ free _ =>
    obtain ⟨x, chain⟩ := u.applyRoom_touches r new
    have stored : (u.applyRoom r new).settings = { u.settings with rooms := put u.settings.rooms r new } :=
      chain.keeps .settings (by decide)
    refine stored ▸ ⟨h.part, fun q => ?_, fun q => put_unique h.unique free q, h.programs⟩
    rw [look_put]
    split
    · exact setRoomFields_ok read
    · exact h.rooms q
  all_goals exact h

theorem setProgramRule_settings {q : Request} {u : State} (h : u.settings.sound) :
    (setProgramRule q u).state.settings.sound := by
  fun_cases setProgramRule
  case case2 n steps read =>
    refine ⟨h.part, h.rooms, h.unique, fun m => ?_⟩
    have stored : look (put u.settings.programs n steps) m = if n = m then steps else look u.settings.programs m :=
      look_put _ _ _ _
    refine (congrArg (fun p => programGood (positionsOf p)) stored).trans ?_
    split
    · exact programFields_ok read
    · exact h.programs m
  all_goals exact h

theorem setPartRule_settings {q : Request} {u : State} (h : u.settings.sound) : (setPartRule q u).state.settings.sound := by
  have applied (new : PartSettings) : (u.applyPart new).settings = { u.settings with part := new } := by
    unfold State.applyPart
    split <;> rfl
  fun_cases setPartRule
  case case3 new read _ _ _ => exact applied new ▸ ⟨partFields_ok read, h.rooms, h.unique, h.programs⟩
  all_goals exact h

/-- Another line speed is in range too. -/
theorem PartSettings.firstBad_speed {p : PartSettings} (h : p.fields.firstBad = none) (speed : LineSpeed) :
    ({ p with lineSpeed := speed } : PartSettings).fields.firstBad = none := by
  simp only [PartFields.firstBad, firstBad_eq_none, List.mem_cons, List.not_mem_nil, forall_eq_or_imp] at h ⊢
  obtain ⟨epoch, mode, shift, suppression, policy, window, -, timeout, silence, rest⟩ := h
  exact ⟨epoch, mode, shift, suppression, policy, window, by cases speed <;> rfl, timeout, silence, rest⟩

theorem setStationRule_settings {q : Request} {u : State} (h : u.settings.sound) :
    (setStationRule q u).state.settings.sound := by
  fun_cases setStationRule
  case case3 a new speed _ _ _ _ =>
    have told : Touches (u.writeStation a new speed)
        (if new.enabled then (u.writeStation a new speed).enableStation else (u.writeStation a new speed).disableStation a) :=
      Touches.ite (Touches.refl _).enableStation ((Touches.refl _).disableStation a)
    have same : _ = (u.writeStation a new speed).settings := told.keeps .settings (by decide)
    exact same ▸ ⟨PartSettings.firstBad_speed h.part _, h.rooms, h.unique, h.programs⟩
  all_goals exact h

/-! ## Resets, loads and writes -/

theorem validImage_good {m : ConfigMemory} {answers : Bool} {i : SettingsImage} (h : validImage m answers = some i) :
    imageGood i = true := by
  unfold validImage at h
  split at h
  · split at h
    · split at h
      · next good => exact Option.some.inj h ▸ good
      · cases h
    · cases h
  · cases h

theorem loadedSettings_sound (m : ConfigMemory) (answers : Bool) : (loadedSettings (validImage m answers)).sound := by
  unfold loadedSettings
  split
  · next i valid => exact SettingsImage.settings_sound (validImage_good valid)
  · exact Settings.default_sound

theorem loadedAddress_trunk {m : ConfigMemory} {answers : Bool} {held : Nat} (kind : ResetKind) (h : trunkAddress held) :
    trunkAddress (loadedAddress kind held (validImage m answers)) := by
  unfold loadedAddress
  split
  · exact h
  · split
    · next i valid =>
      obtain ⟨-, -, -, -, -, address⟩ := (imageGood_iff i).mp (validImage_good valid)
      cases some : i.address with
      | none => exact .inl rfl
      | some a => exact .inr (address a some)
    · exact .inl rfl

/-- The settings and the trunk address through every command. -/
theorem exec_settingsSound (i : Instr) (s t : State) (h : s.settingsSound) (run : exec i s = .next t) : t.settingsSound := by
  obtain ⟨settings, address⟩ := State.settingsSound_iff.mp h
  have requested {isRow : Nat → Bool} {rule : Request → State → Executed}
      (run : (Host.Outcome.next (s.executeRequest isRow rule) : Host.Outcome State Fault Refusal) = .next t)
      (rules : ∀ q (u : State), u.settings.sound → (rule q u).state.settings.sound) : t.settings.sound :=
    request_keeping (P := fun t => t.settings.sound) run settings (fun q rest => rules q _ settings) fun _ _ _ _ h => h
  cases i with
  | powerOnReset =>
    obtain rfl := Host.Outcome.next.inj run
    exact State.settingsSound_iff.mpr ⟨Settings.default_sound, .inl rfl⟩
  | restartReset =>
    obtain rfl := Host.Outcome.next.inj run
    split
    · exact State.settingsSound_iff.mpr ⟨Settings.default_sound, address⟩
    · exact h
  | settingsLoadEnd =>
    obtain rfl := Host.Outcome.next.inj run
    split
    · exact State.settingsSound_iff.mpr ⟨loadedSettings_sound _ _, loadedAddress_trunk _ address⟩
    · exact h
  | assignAddress =>
    have same : t.settings = s.settings := exec_keeps run .settings (by simp [touchedBy])
    refine State.settingsSound_iff.mpr ⟨same ▸ settings, ?_⟩
    refine request_keeping (P := fun t => trunkAddress t.trunk.address) run address (fun q rest => ?_) fun _ _ _ _ h => h
    fun_cases assignAddressRule
    case case3 serial new read _ => exact assignFields_ok read
    all_goals exact address
  | setRoom =>
    exact State.settingsSound_iff.mpr ⟨requested run fun _ _ => setRoomRule_settings,
      exec_address rfl (by simp) run ▸ address⟩
  | setProgram =>
    exact State.settingsSound_iff.mpr ⟨requested run fun _ _ => setProgramRule_settings,
      exec_address rfl (by simp) run ▸ address⟩
  | setStation =>
    exact State.settingsSound_iff.mpr ⟨requested run fun _ _ => setStationRule_settings,
      exec_address rfl (by simp) run ▸ address⟩
  | setPart =>
    exact State.settingsSound_iff.mpr ⟨requested run fun _ _ => setPartRule_settings,
      exec_address rfl (by simp) run ▸ address⟩
  | _ =>
    have same : t.settings = s.settings := exec_keeps run .settings (by simp [touchedBy])
    exact State.settingsSound_iff.mpr ⟨same ▸ settings, exec_address rfl (by simp) run ▸ address⟩

/-- The store's copy through every command: it is taken of settings in force, and stands until the write ends. -/
theorem exec_copySound (i : Instr) (s t : State) (h : s.settingsSound) (copy : s.copySound) (run : exec i s = .next t) :
    t.copySound := by
  have idle (u : State) (free : u.executor.isSaving = false) : u.copySound := by
    unfold State.copySound
    cases e : u.executor with
    | saving => simp [e, Executor.isSaving] at free
    | _ => trivial
  by_cases touched : Field.executor ∈ touchedBy i
  · cases i with
    | powerOnReset | restartReset | settingsLoadEnd =>
      exact renewal_keeping rfl run copy (fun _ _ => idle _ rfl) fun _ => idle _ rfl
    | saveSettings answers =>
      refine request_keeping run copy (fun q rest => ?_) fun _ _ _ _ h => h
      fun_cases saveSettingsRule
      case case2 => exact h
      all_goals exact copy
    | restart =>
      refine request_keeping run copy (fun q rest => ?_) fun _ _ _ _ h => h
      fun_cases restartRule
      · exact copy
      · exact idle _ rfl
    | saveWriteEnd =>
      obtain rfl := Host.Outcome.next.inj run
      split
      · split
        · exact idle _ rfl
        · exact copy
      · exact copy
    | replySent =>
      obtain rfl := Host.Outcome.next.inj run
      split
      · split
        · dsimp only
          split
          · exact idle _ rfl
          · exact copy
        · exact copy
      · exact copy
    | powerLost =>
      obtain rfl := Host.Outcome.next.inj run
      dsimp only
      split
      · exact idle _ rfl
      · exact copy
    | _ => exact absurd touched (by simp [touchedBy])
  · have same : t.executor = s.executor := exec_keeps run .executor touched
    unfold State.copySound
    rw [same]
    exact copy

/-- Settles O10: every request that changes a setting checks it as the load does, and the load takes settings and an address from a
checked image. -/
theorem settingsStayValid : Obligations.SettingsStayValid := by
  intro s t h copy run
  exact step_keeping (P := fun s => s.settingsSound ∧ s.copySound) (fun _ _ h => h)
    (fun i s t h run => ⟨exec_settingsSound i s t h.1 run, exec_copySound i s t h.1 h.2 run⟩) s t ⟨h, copy⟩ run

end Sys2Proof.Machine

/-! PROOF. Steps, resets and start-up (O1, O2, O13 to O18). -/

namespace Sys2Proof.Machine

set_option Elab.async false

/-- Settles O1: the two branches of `step`. -/
theorem stepRunsFrontCommand : Obligations.StepRunsFrontCommand :=
  ⟨fun _ _ _ front => by rw [step, front], fun _ none => by rw [step, none]⟩

/-! ## Resets (11 R177) -/

/-- The rooms of the default settings start like those of the reset. -/
theorem freshRooms_default : (Settings.default.rooms.map fun r =>
    RoomState.atReset (zoneIndexOf Settings.default.part r.roomCode)) = Vector.replicate 6 (RoomState.atReset 0) := by
  rw [Settings.default, Vector.map_replicate]
  rfl

/-- STARTING as a reset enters it, item by item (log 3, log 29). -/
theorem State.enterStarting_eq (s : State) (kind : ResetKind) : s.enterStarting kind =
    { State.reset with
      pending := s.pending, serial := s.serial, memory := s.memory, phase := .selfTest kind
      trunk := TrunkPort.atReset (match kind with
        | .powerOn => Config.unassigned
        | .restart => s.trunk.address) } := by
  calc s.enterStarting kind
      = { State.reset with
          pending := s.pending, serial := s.serial, memory := s.memory, phase := .selfTest kind
          rooms := Settings.default.rooms.map fun r => RoomState.atReset (zoneIndexOf Settings.default.part r.roomCode)
          trunk := TrunkPort.atReset (match kind with
            | .powerOn => Config.unassigned
            | .restart => s.trunk.address) } := rfl
    _ = _ := by rw [freshRooms_default]; rfl

/-- Settles O2: the state of the reset, field by field, and each invariant over its empty tables. -/
theorem resetLeaves : Obligations.ResetLeaves := by
  have room (r : RoomId) : State.reset.room r = RoomState.atReset 0 := look_replicate _ r
  refine ⟨rfl, rfl, rfl, rfl, rfl, rfl, rfl, rfl, room, fun r => ?_, fun r => look_replicate _ r, fun r => look_replicate _ r,
    fun a => look_replicate _ a, rfl, rfl, rfl, rfl, rfl, rfl, rfl, rfl, fun a => look_replicate _ a,
    freshStations_sound _ rfl, freshDoors_sound _ rfl, ?_, Clock.atReset_sound _, freshTables_sound _ rfl rfl,
    freshPeople_sound _ rfl rfl, (fresh_seated _ rfl rfl rfl).onePlace,
    State.settingsSound_iff.mpr ⟨Settings.default_sound, .inl rfl⟩, trivial⟩
  · have slot : State.reset.slot r = .empty := look_replicate _ r
    simp [State.entryImage, State.exitImage, State.entryBase, room, slot, RoomState.atReset]
  · exact ⟨Reports.atReset_sound, Nat.zero_le _, Nat.zero_le _, Nat.zero_le _, nofun⟩

/-- What the loss of the supply leaves (log 26). -/
theorem State.powerLost_eq (s : State) (cut : WriteCut) : exec (.powerLost cut) s
    = .next { s with
        phase := .inReset, memory := s.memoryAtCut cut
        executor := if s.executor.isSaving = true then .free else s.executor } := by
  obtain ⟨_, _, _, _, _, _, _, _, _, _, _, _, _, _, _, _, _, _, executor, _, _⟩ := s
  cases executor <;> rfl

/-- Settles O15: a power-on reset enters STARTING, and the loss of the supply stops the part. -/
theorem powerOnResetStarts : Obligations.PowerOnResetStarts :=
  ⟨fun _ s => congrArg Host.Outcome.next ((s.withMemory _).enterStarting_eq .powerOn), fun cut s => s.powerLost_eq cut⟩

/-- Settles O18: RESTART, the end of its reply and the reset that follows. -/
theorem restartThenReset : Obligations.RestartThenReset := by
  refine ⟨fun tag rest s head => ?_, fun moment sent s running sending => ?_, fun s running due => ?_⟩
  · exact congrArg Host.Outcome.next (executeNamed_of_atHead (rule := restartRule)
      (t := { s.taken rest with executor := .restarting }) head rfl)
  · have run : s.isRunning = true := by simp [State.isRunning, running]
    refine congrArg Host.Outcome.next ((if_pos run).trans ?_)
    rw [sending]
    cases restart : sent.carriesRestart <;> simp only [restart] <;> rfl
  · have isDue : (s.isRunning && s.restartDue) = true := by simp [State.isRunning, State.restartDue, running, due]
    exact congrArg Host.Outcome.next ((if_pos isDue).trans (s.enterStarting_eq .restart))

/-! ## The self-test (11 R178, R179) -/

/-- The test of one half finds the failing cells, and at a third of them the half is retired whole. -/
theorem testHalf_eq (failing cells found : List Nat) (few : found.length ≤ 2) :
    testHalf failing cells found =
      if 3 ≤ (found ++ cells.filter fun c => failing.contains c).length then { cells := [], whole := true }
      else { cells := found ++ cells.filter fun c => failing.contains c, whole := false } := by
  induction cells generalizing found with
  | nil => rw [List.filter_nil, List.append_nil, if_neg (by omega), testHalf]
  | cons c cells ih =>
    by_cases fails : failing.contains c = true
    · rw [testHalf, if_pos fails, List.filter_cons_of_pos (by exact fails)]
      by_cases two : found.length < 2
      · rw [if_pos two, ih (found ++ [c]) (by simp; omega), List.append_assoc, List.singleton_append]
      · rw [if_neg two, if_pos (by simp; omega)]
    · rw [testHalf, if_neg fails, List.filter_cons_of_neg (by exact fails), ih found few]

/-- The two halves beside each other: the map, its store state and its count, for the failing cells of each half. -/
theorem pairHalves_tested (low high : List Nat) :
    let half (cells : List Nat) : HalfMap :=
      if 3 ≤ cells.length then { cells := [], whole := true } else { cells := cells, whole := false }
    let m := pairHalves (half low) (half high)
    let lowWhole := 3 ≤ low.length ∨ (3 ≤ high.length ∧ 1 ≤ low.length)
    let highWhole := 3 ≤ high.length ∨ (3 ≤ low.length ∧ 1 ≤ high.length)
    m.low = (if lowWhole then { cells := [], whole := true } else { cells := low, whole := false }) ∧
    m.high = (if highWhole then { cells := [], whole := true } else { cells := high, whole := false }) := by
  intro half m lowWhole highWhole
  have any (cells : List Nat) : (half cells).anyRetired = decide (1 ≤ cells.length) := by
    by_cases three : 3 ≤ cells.length
    · simp only [half, if_pos three, HalfMap.anyRetired, Bool.true_or]
      simp
      omega
    · simp only [half, if_neg three, HalfMap.anyRetired]
      cases cells <;> simp
  have whole (cells : List Nat) : (half cells).whole = decide (3 ≤ cells.length) := by
    by_cases three : 3 ≤ cells.length <;> simp [half, three]
  simp only [m, pairHalves, any, whole, HalfMap.allRetired, lowWhole, highWhole]
  by_cases low3 : 3 ≤ low.length <;> by_cases high3 : 3 ≤ high.length <;> by_cases low1 : 1 ≤ low.length <;>
    by_cases high1 : 1 ≤ high.length <;> simp [half, low3, high3, low1, high1]

/-- The self-test's map, by the failing cells of each half. -/
theorem selfTest_eq (failing : List Nat) :
    let half (cells : List Nat) : HalfMap :=
      if 3 ≤ cells.length then { cells := [], whole := true } else { cells := cells, whole := false }
    selfTest failing = pairHalves (half ((List.range' 0 1024).filter fun c => failing.contains c))
      (half ((List.range' 1024 1024).filter fun c => failing.contains c)) :=
  congrArg₂ pairHalves (testHalf_eq failing _ [] (Nat.zero_le _)) (testHalf_eq failing _ [] (Nat.zero_le _))

/-- Store state and count of a map with a half retired whole or not (11 R179). -/
theorem RetiredMap.store_count {m : RetiredMap} {low high : List Nat} {lowWhole highWhole : Prop} [Decidable lowWhole]
    [Decidable highWhole] (lowIs : m.low = if lowWhole then { cells := [], whole := true } else { cells := low, whole := false })
    (highIs : m.high = if highWhole then { cells := [], whole := true } else { cells := high, whole := false }) :
    (lowWhole ∧ highWhole → m.store = .failed ∧ m.count = 2048) ∧
    ((lowWhole ∧ ¬ highWhole) ∨ (highWhole ∧ ¬ lowWhole) → m.store = .half ∧
      m.count = 1024 + if lowWhole then high.length else low.length) ∧
    (¬ lowWhole ∧ ¬ highWhole → m.count = low.length + high.length ∧
      m.store = if low = [] ∧ high = [] then .whole else .reduced) := by
  simp only [RetiredMap.store, RetiredMap.count, HalfMap.count, lowIs, highIs]
  by_cases l : lowWhole <;> by_cases h : highWhole <;> simp [l, h, Config.halfCells, Nat.add_comm]

/-- Settles O16: the tests of the halves stop at a third failing cell, and their pairing decides the rest. -/
theorem selfTestRetiresCells : Obligations.SelfTestRetiresCells := by
  intro kind moment failing s phase
  have run : exec (.selfTestEnd moment failing) s
      = .next { s with now := max s.now moment, phase := .settingsLoad kind, retired := selfTest failing } := by
    show Host.Outcome.next _ = _
    rw [phase]
    rfl
  refine ⟨_, run, rfl, ?_⟩
  rw [selfTest_eq]
  generalize (List.range' 0 1024).filter (fun c => failing.contains c) = low
  generalize (List.range' 1024 1024).filter (fun c => failing.contains c) = high
  intro lowCells highCells lowWhole highWhole
  obtain ⟨lowIs, highIs⟩ := pairHalves_tested low high
  obtain ⟨both, one, none⟩ := RetiredMap.store_count lowIs highIs
  refine ⟨fun h => lowIs.trans (if_pos h), fun h => lowIs.trans (if_neg h), fun h => highIs.trans (if_pos h),
    fun h => highIs.trans (if_neg h), both, fun h => ?_, none⟩
  obtain ⟨store, count⟩ := one h
  refine ⟨store, count.trans ?_⟩
  rcases h with ⟨l, nh⟩ | ⟨h, nl⟩
  · have few : high.length = 0 := by simp only [lowWhole, highWhole, lowCells, highCells] at l nh; omega
    rw [if_pos l, few]
  · have few : low.length = 0 := by simp only [lowWhole, highWhole, lowCells, highCells] at h nl; omega
    rw [if_neg nl, few]

/-! ## The settings load (11 R180, R181) -/

theorem validImage_eq_some {m : ConfigMemory} {answers : Bool} {i : SettingsImage} :
    validImage m answers = some i ↔ answers = true ∧ m.signature = true ∧ m.image = some i ∧ imageGood i = true := by
  unfold validImage
  cases answers <;> cases m.signature <;> cases image : m.image <;> simp
  next j => exact ⟨fun ⟨good, eq⟩ => ⟨eq, eq ▸ good⟩, fun ⟨eq, good⟩ => ⟨eq ▸ good, eq⟩⟩

/-- Without a last visited station the choice is the lowest enabled address. -/
theorem nextStation_none (stations : Vector StationSettings 16) :
    nextStation stations none = allStations.find? fun a => (look stations a).enabled := List.head?_filter ..

theorem loadedAddress_eq (kind : ResetKind) (held : Nat) (image : Option SettingsImage) :
    loadedAddress kind held image = match kind with
      | .restart => held
      | .powerOn => (image.bind SettingsImage.address).getD 254 := by
  cases kind <;> cases image <;> rfl

/-- RUNNING as the load enters it, item by item. -/
theorem State.settingsLoaded_eq {s : State} {kind : ResetKind} (phase : s.phase = .settingsLoad kind) (moment : Nat)
    (answers : Bool) :
    let image := validImage s.memory answers
    let settings := loadedSettings image
    let now := max s.now moment
    exec (.settingsLoadEnd moment answers) s = .next
      { State.reset with
        pending := s.pending
        phase := .running
        now := now
        serial := s.serial
        memory := s.memory
        retired := s.retired
        settings := settings
        loadResult := { memoryPresent := answers, imageValid := image.isSome }
        clock := { minute := 0, second := 0, timeState := .unset, sinceTime := 0, lastTime := none, nextCount := now + 1000 }
        rooms := settings.rooms.map fun r =>
          { zoneIndex := zoneIndexOf settings.part r.roomCode, mode := .normal, rollState := .uncertain,
            entryOverlay := none, exitOverlay := none }
        field := { visit := none, lastVisited := none, carryDown := [], chosen := nextStation settings.stations none }
        trunk :=
          { address := loadedAddress kind s.trunk.address image
            link := .online
            silenceTimer := some (countdownFrom now (settings.part.trunkSilence * 1000))
            silentSince := none, commands := [], refusals := 0, reply := none }
        reports :=
          { alarms := [{ minute := 0, second := 0, room := none, credential := none, station := none, repeats := 0,
                         detail := .startUp s.retired.store s.retired.count }]
            answers := [], routine := [], overflow := false, discards := 0 } } := by
  intro image settings now
  show Host.Outcome.next _ = _
  rw [phase]
  rfl

/-- Settles O17: the valid image by its checks, and RUNNING entered from its settings or the defaults. -/
theorem settingsLoadEntersRunning : Obligations.SettingsLoadEntersRunning := by
  intro kind moment answers s phase image settings now
  refine ⟨fun i => validImage_eq_some, ?_⟩
  have loaded := s.settingsLoaded_eq phase moment answers
  dsimp only at loaded
  rw [nextStation_none, loadedAddress_eq] at loaded
  exact loaded

/-! ## Saving, and a save cut short (11 R182, R183) -/

/-- What a start-up finds after a power-on reset: RUNNING with the settings and the address of the memory's valid image. -/
theorem State.startUp_loads (s : State) (cut : WriteCut) (m2 m3 : Nat) (failing : List Nat) :
    ∃ b c d : State,
      exec (.powerOnReset cut) s = .next b ∧ exec (.selfTestEnd m2 failing) b = .next c ∧
      exec (.settingsLoadEnd m3 true) c = .next d ∧ d.phase = .running ∧ d.memory = s.memoryAtCut cut ∧
      d.settings = loadedSettings (validImage (s.memoryAtCut cut) true) ∧
      d.trunk.address = loadedAddress .powerOn 254 (validImage (s.memoryAtCut cut) true) ∧
      d.loadResult = { memoryPresent := true, imageValid := (validImage (s.memoryAtCut cut) true).isSome } := by
  refine ⟨_, _, _, rfl, rfl, State.settingsLoaded_eq rfl m3 true, rfl, rfl, rfl, rfl, rfl⟩

/-- The write in flight ends (11 R182): the memory and the answer are those of `writeEnd`. -/
theorem exec_saveWriteEnd {s : State} {tag : Nat} {copy : SettingsImage} (running : s.phase = .running)
    (saving : s.executor = .saving tag copy) (moment : Nat) (outcome : WriteOutcome) :
    exec (.saveWriteEnd moment outcome) s = .next
      ({ s with now := max s.now moment, memory := (writeEnd s.memory copy outcome).1, executor := .free }.plusAnswer tag 24
        (writeEnd s.memory copy outcome).2.1 (writeEnd s.memory copy outcome).2.2) := by
  have run : s.isRunning = true := by simp [State.isRunning, running]
  refine congrArg Host.Outcome.next ((if_pos run).trans ?_)
  rw [saving]
  rfl

/-- Settles O13: the complete write leaves the image with its signature, and the load takes it. -/
theorem savedSettingsComeBack : Obligations.SavedSettingsComeBack := by
  intro s tag m1 m2 m3 failing cut running sound saving
  have valid : validImage { signature := true, image := some (imageOf s.settings s.trunk.address) } true
      = some (imageOf s.settings s.trunk.address) := validImage_eq_some.mpr ⟨rfl, rfl, rfl, sound⟩
  obtain ⟨settingsSound, address⟩ := State.settingsSound_iff.mp sound
  let a : State := { s with
    now := max s.now m1, executor := .free
    memory := { signature := true, image := some (imageOf s.settings s.trunk.address) } }.plusAnswer tag 24 .done (.saved 512)
  have written : exec (.saveWriteEnd m1 .complete) s = .next a := exec_saveWriteEnd running saving m1 .complete
  obtain ⟨b, c, d, reset, tested, loaded, phase, memory, settings, held, result⟩ := a.startUp_loads cut m2 m3 failing
  have kept : validImage (a.memoryAtCut cut) true = some (imageOf s.settings s.trunk.address) := valid
  rw [kept] at settings held result
  refine ⟨a, b, c, d, written, reset, tested, loaded, phase, settings.trans (imageOf_settings settingsSound _), held.trans ?_, result⟩
  rcases address with unassigned | assigned
  · rw [unassigned]
    rfl
  · have given : s.trunk.address ≠ Config.unassigned := by
      simp only [within, Bool.and_eq_true, decide_eq_true_iff] at assigned
      simp only [Config.unassigned]
      omega
    simp [loadedAddress, imageOf, given]

theorem loadedSettings_invalid {m : ConfigMemory} (unsigned : m.signature = false) (answers : Bool) :
    validImage m answers = none := by
  simp [validImage, unsigned]

/-- The memory after the loss of the supply is the cut write's, and no write is left for the next reset to cut. -/
theorem State.memoryAtCut_powerLost {s t : State} {cut again : WriteCut} (run : exec (.powerLost cut) s = .next t) :
    t.memoryAtCut again = s.memoryAtCut cut := by
  rw [s.powerLost_eq cut] at run
  obtain rfl := Host.Outcome.next.inj run
  simp only [State.memoryAtCut]
  cases s.executor <;> rfl

/-- Settles O14: each cut leaves a memory, and the start-up judges it. -/
theorem saveCutShort : Obligations.SaveCutShort := by
  intro s tag copy m2 m3 failing cut saving
  have lost := s.powerLost_eq cut
  obtain ⟨b, c, d, reset, tested, loaded, -, memory, settings, address, result⟩ :=
    State.startUp_loads _ .beforeClear m2 m3 failing
  rw [State.memoryAtCut_powerLost lost] at memory settings address result
  refine ⟨_, b, c, d, lost, reset, tested, loaded, ?_⟩
  have held : s.memoryAtCut cut = cutWrite s.memory copy cut := by rw [State.memoryAtCut, saving]
  rw [held] at memory settings address result
  have none (unsigned : (cutWrite s.memory copy cut).signature = false) :
      d.memory.signature = false ∧ d.settings = Settings.default ∧ d.trunk.address = 254 ∧ d.loadResult.imageValid = false := by
    rw [loadedSettings_invalid unsigned] at settings address result
    exact ⟨memory ▸ unsigned, settings, address, result ▸ rfl⟩
  have image {i : SettingsImage} (is : cutWrite s.memory copy cut = { signature := true, image := some i })
      (good : imageGood i = true) : d.settings = i.settings ∧ d.loadResult.imageValid = true := by
    rw [is, validImage_eq_some.mpr ⟨rfl, rfl, rfl, good⟩] at settings result
    exact ⟨settings, result ▸ rfl⟩
  have bad {i : SettingsImage} (is : cutWrite s.memory copy cut = { signature := true, image := some i })
      (bad : imageGood i = false) : d.settings = Settings.default ∧ d.trunk.address = 254 ∧ d.loadResult.imageValid = false := by
    have invalid : validImage { signature := true, image := some i } true = .none := by simp [validImage, bad]
    rw [is, invalid] at settings address result
    exact ⟨settings, address, result ▸ rfl⟩
  refine ⟨?_, ?_, ?_, ?_, ?_⟩
  · rintro rfl
    exact memory
  · rintro rfl
    exact none rfl
  · rintro rfl
    exact image rfl
  · rintro found rfl
    exact ⟨memory, image rfl, bad rfl⟩
  · rintro rfl
    exact none rfl

/-! ## SAVE SETTINGS (09 R164) -/

/-- The request at the head is taken with nothing else changed. -/
theorem takeRequest_of_atHead {s : State} {tag name : Nat} {body : List Byte} {rest : List Request}
    (head : s.atHead tag name body rest) :
    s.takeRequest = some ({ tag := tag, name := name, body := body }, s.taken rest) := by
  rw [State.takeRequest, if_pos head.mayExecute, head.head]
  rfl

/-- A request at the head whose rule gives no answer leaves the rule's state. -/
theorem executeNamed_silent {s t : State} {tag name : Nat} {body : List Byte} {rest : List Request}
    {rule : Request → State → Executed} (head : s.atHead tag name body rest)
    (silent : rule { tag := tag, name := name, body := body } (s.taken rest) = { state := t, answer := none }) :
    s.executeNamed name rule = t := by
  rw [State.executeNamed, State.executeRequest, takeRequest_of_atHead head]
  simp only [beq_self_eq_true, if_true, silent]

/-- Settles O44: the two beginnings of a save, and the memory and answer of each end. -/
theorem saveSettingsAndItsEnd : Obligations.SaveSettingsAndItsEnd := by
  refine ⟨fun tag rest s head => ⟨?_, ?_⟩, fun moment tag copy outcome s running saving => ?_⟩
  · exact congrArg Host.Outcome.next (executeNamed_of_atHead (rule := saveSettingsRule false) head rfl)
  · exact congrArg Host.Outcome.next (executeNamed_silent (rule := saveSettingsRule true) head rfl)
  · refine ⟨_, _, _, exec_saveWriteEnd running saving moment outcome, ?_⟩
    cases outcome with
    | clearFailed cleared => cases cleared <;> simp [writeEnd]
    | _ => simp [writeEnd, Config.imageBytes]

end Sys2Proof.Machine

/-! PROOF. The fields of a request as the head-end writes them, and each request's reading of its own (12 R185). -/

namespace Sys2Proof.Machine

set_option Elab.async false

/-! ## Fields written in order -/

/-- Fields as bytes: each a size and a value (12 R185). -/
def written (fields : List (Nat × Nat)) : List Byte := fields.flatMap fun f => bytesOf f.1 f.2

/-- Whether each field's value fits its size. -/
def fit (fields : List (Nat × Nat)) : Prop := ∀ f ∈ fields, f.2 < 256 ^ f.1

theorem fit_cons {size x : Nat} {fields : List (Nat × Nat)} : fit ((size, x) :: fields) ↔ x < 256 ^ size ∧ fit fields :=
  List.forall_mem_cons

@[simp] theorem fit_nil : fit [] := fun _ none => absurd none List.not_mem_nil

theorem readFields_written {fields : List (Nat × Nat)} (fits : fit fields) (p : Nat) (rest : List Byte) :
    readFields p (fields.map Prod.fst) (written fields ++ rest) = .ok (fields.map Prod.snd, rest) := by
  induction fields generalizing p with
  | nil => rfl
  | cons f fields ih =>
    obtain ⟨size, x⟩ := f
    obtain ⟨first, others⟩ := fit_cons.mp fits
    have next := readFields_bytesOf p size x (fields.map Prod.fst) (written fields ++ rest) first
    rw [ih others] at next
    rw [written, List.flatMap_cons, List.append_assoc]
    exact next

theorem readAll_written {fields : List (Nat × Nat)} (fits : fit fields) :
    readAll (fields.map Prod.fst) (written fields) = .ok (fields.map Prod.snd) := by
  have read := readFields_written fits 1 []
  rw [List.append_nil] at read
  rw [readAll, read]

theorem readEntries_written {sizes : List Nat} {entries : List (List (Nat × Nat))}
    (shapes : ∀ e ∈ entries, e.map Prod.fst = sizes) (fits : ∀ e ∈ entries, fit e) (p : Nat) (rest : List Byte) :
    readEntries entries.length p sizes (entries.flatMap written ++ rest)
      = .ok (entries.map fun e => e.map Prod.snd, rest) := by
  induction entries generalizing p with
  | nil => rfl
  | cons e entries ih =>
    obtain ⟨shape, shapes⟩ := List.forall_mem_cons.mp shapes
    obtain ⟨fits, others⟩ := List.forall_mem_cons.mp fits
    rw [List.length_cons, readEntries, List.flatMap_cons, List.append_assoc]
    have first := readFields_written fits p (entries.flatMap written ++ rest)
    rw [shape] at first
    rw [first]
    simp only [ih shapes others]
    rfl

/-- A counted list that was written reads back: head fields, the count last, and the entries. -/
theorem readCounted_written {head : List (Nat × Nat)} {entry : List Nat} {entries : List (List (Nat × Nat))}
    (fits : fit head) (count : (head.map Prod.snd).getLastD 0 = entries.length) (shapes : ∀ e ∈ entries, e.map Prod.fst = entry)
    (each : ∀ e ∈ entries, fit e) :
    readCounted (head.map Prod.fst) entry (written head ++ entries.flatMap written)
      = .ok (head.map Prod.snd, entries.map fun e => e.map Prod.snd) := by
  have list := readEntries_written shapes each ((head.map Prod.fst).length + 1) []
  rw [List.append_nil] at list
  rw [readCounted, readFields_written fits]
  simp only [count, list]

/-! ## Numbers of rooms, stations and programs -/

@[simp] theorem roomOfNumber_roomNumber (r : RoomId) : roomOfNumber (roomNumber r) = some r := by
  revert r
  decide

@[simp] theorem stationOfAddress_fieldAddress (a : StationId) : stationOfAddress (fieldAddress a) = some a := by
  revert a
  decide

@[simp] theorem programOfNumber_val (n : ProgramId) : programOfNumber n.val = some n := by
  revert n
  decide

theorem roomNumber_fits (r : RoomId) : roomNumber r < 256 := by
  rw [roomNumber]
  omega

theorem fieldAddress_fits (a : StationId) : fieldAddress a < 256 := by
  rw [fieldAddress]
  omega

/-! ## Requests of one or two fields -/

theorem readAll_two {m n x y : Nat} (hx : x < 256 ^ m) (hy : y < 256 ^ n) :
    readAll [m, n] (bytesOf m x ++ bytesOf n y) = .ok [x, y] := by
  simpa [written] using readAll_written (fields := [(m, x), (n, y)]) (by simp [fit_cons, hx, hy])

theorem roomField_bytesOf (r : RoomId) : roomField (bytesOf 1 (roomNumber r)) = .ok r := by
  simp [roomField, readAll_one (n := 1) (roomNumber_fits r)]

theorem roomModeFields_bytesOf (r : RoomId) {code : Nat} (h : code ≤ 2) :
    roomModeFields (bytesOf 1 (roomNumber r) ++ bytesOf 1 code) = .ok (r, modeOfCode code) := by
  simp [roomModeFields, readAll_two (m := 1) (n := 1) (roomNumber_fits r) (show code < 256 by omega), h]

theorem readRoomFields_bytesOf (r : RoomId) {first : Nat} (h : first ≤ 23) :
    readRoomFields (bytesOf 1 (roomNumber r) ++ bytesOf 1 first) = .ok (r, first) := by
  simp [readRoomFields, readAll_two (m := 1) (n := 1) (roomNumber_fits r) (show first < 256 by omega), h]

theorem releaseFields_bytesOf (r : RoomId) (kind : Direction) :
    releaseFields (bytesOf 1 (roomNumber r) ++ bytesOf 1 kind.code) = .ok (r, kind) := by
  have fits : kind.code < 256 ^ 1 := by cases kind <;> decide
  cases kind <;> simp [releaseFields, readAll_two (m := 1) (n := 1) (roomNumber_fits r) fits] <;> simp [Direction.code]

theorem assignFields_bytesOf {serial address : Nat} (hs : serial < 4294967296) (ha : address < 256) :
    assignFields (bytesOf 4 serial ++ bytesOf 1 address)
      = if within 1 address 250 then .ok (serial, address) else .error 2 := by
  simp [assignFields, readAll_two (m := 4) (n := 1) hs ha]

theorem stationFields_bytesOf (a : StationId) (new : StationSettings) {speed : Nat} (h : speed ≤ 3) :
    stationFields (bytesOf 1 (fieldAddress a) ++ bytesOf 1 new.kind.code ++ bytesOf 1 (yesNo new.enabled) ++ bytesOf 1 speed)
      = .ok (a, new, if speed = 3 then none else some (speedOfCode speed)) := by
  have read := readAll_written
    (fields := [(1, fieldAddress a), (1, new.kind.code), (1, yesNo new.enabled), (1, speed)])
    (by
      have := fieldAddress_fits a
      cases new.kind <;> cases new.enabled <;> simp [fit_cons, yesNo, StationKind.code] <;> omega)
  simp only [written, List.flatMap_cons, List.flatMap_nil, List.append_nil, List.map_cons, List.map_nil] at read
  simp only [stationFields, List.append_assoc, read, stationOfAddress_fieldAddress]
  have good : firstBad 2 [decide (new.kind.code ≤ 1), decide (yesNo new.enabled ≤ 1), decide (speed ≤ 3)] = none := by
    rw [firstBad_eq_none]
    cases new.kind <;> cases new.enabled <;> simp [yesNo, StationKind.code, h]
  rw [good]
  obtain ⟨kind, enabled⟩ := new
  cases kind <;> cases enabled <;> rfl

/-! ## Settings -/

theorem partFields_encodePart {new : PartSettings} (good : new.fields.firstBad = none) :
    partFields (encodePart new) = .ok new := by
  have ranges := good
  simp only [PartFields.firstBad, firstBad_eq_none, List.mem_cons, List.not_mem_nil, forall_eq_or_imp, within,
    Bool.and_eq_true, Bool.or_eq_true, decide_eq_true_eq, beq_iff_eq] at ranges
  obtain ⟨⟨-, day⟩, mode, ⟨-, shift⟩, ⟨-, suppression⟩, ⟨-, policy⟩, ⟨-, window⟩, ⟨-, speed⟩, ⟨-, timeout⟩, ⟨-, silence⟩, -⟩ :=
    ranges
  have read := readAll_written
    (fields := [(1, new.fields.epochWeekday), (1, new.fields.groupMode), (1, new.fields.shift),
      (1, new.fields.repeatSuppression), (1, new.fields.readerPolicy), (1, new.fields.escortWindow),
      (1, new.fields.lineSpeed), (1, new.fields.replyTimeout), (1, new.fields.trunkSilence)])
    (by simp only [fit_cons, fit_nil, and_true]; omega)
  simp only [written, List.flatMap_cons, List.flatMap_nil, List.append_nil, List.map_cons, List.map_nil] at read
  simp only [partFields, encodePart, byte1, List.append_assoc, read]
  show (match new.fields.firstBad with
    | some p => Except.error p
    | none => Except.ok new.fields.value) = _
  rw [good, PartSettings.fields_value]

theorem setRoomFields_bytesOf (r : RoomId) {new : RoomSettings} (good : new.fields.firstBad = none) :
    setRoomFields (bytesOf 1 (roomNumber r) ++ encodeRoomSettings new) = .ok (r, new) := by
  have ranges := good
  simp only [RoomFields.firstBad, firstBad_eq_none, List.mem_cons, List.not_mem_nil, forall_eq_or_imp, within,
    Bool.and_eq_true, decide_eq_true_eq] at ranges
  obtain ⟨⟨-, enabled⟩, ⟨-, code⟩, ⟨-, entry⟩, ⟨-, exit⟩, ⟨-, driver⟩, ⟨-, limit⟩, ⟨-, passback⟩, ⟨-, held⟩, ⟨dwell, -⟩,
    ⟨-, interval⟩, ⟨-, first⟩, ⟨-, second⟩, -⟩ := ranges
  have number := roomNumber_fits r
  have read := readAll_written
    (fields := [(1, roomNumber r), (1, new.fields.enabled), (2, new.fields.roomCode), (1, new.fields.entryReader),
      (1, new.fields.exitReader), (1, new.fields.lockDriver), (1, new.fields.occupancyLimit), (1, new.fields.passback),
      (2, new.fields.heldLimit), (1, new.fields.dwellOffset), (1, new.fields.checkInInterval),
      (1, new.fields.entryProgram), (1, new.fields.exitProgram)])
    (by simp only [fit_cons, fit_nil, and_true]; omega)
  simp only [written, List.flatMap_cons, List.flatMap_nil, List.append_nil, List.map_cons, List.map_nil] at read
  simp only [setRoomFields, encodeRoomSettings, byte1, List.append_assoc, read, roomOfNumber_roomNumber]
  show (match new.fields.firstBad with
    | some p => Except.error (p + 1)
    | none => Except.ok (r, new.fields.value)) = _
  rw [good, RoomSettings.fields_value good]

/-! ## Counted lists -/

theorem written_one (n x : Nat) : written [(n, x)] = bytesOf n x := List.append_nil _

theorem flatten_singletons {α β : Type} (f : α → β) (l : List α) : (l.map fun x => [f x]).flatten = l.map f := by
  induction l with
  | nil => rfl
  | cons x l ih => rw [List.map_cons, List.flatten_cons, ih]; rfl

theorem reconcileFields_bytesOf (r : RoomId) {named : List Nat} (few : named.length ≤ 24)
    (valid : ∀ c ∈ named, validCredential c = true) :
    reconcileFields (bytesOf 1 (roomNumber r) ++ bytesOf 1 named.length ++ (named.map (bytesOf 4)).flatten)
      = .ok (r, named) := by
  have number := roomNumber_fits r
  have read := readCounted_written (head := [(1, roomNumber r), (1, named.length)]) (entry := [4])
    (entries := named.map fun c => [(4, c)]) (by simp only [fit_cons, fit_nil, and_true]; omega) (by simp) (by simp)
    (by simpa [fit_cons] using fun c mem => credential_fits (valid c mem))
  have bytes : bytesOf 1 (roomNumber r) ++ bytesOf 1 named.length ++ (named.map (bytesOf 4)).flatten
      = written [(1, roomNumber r), (1, named.length)] ++ (named.map fun c => [(4, c)]).flatMap written := by
    simp [List.flatMap_def, Function.comp_def, written]
  have entries : ((named.map fun c => [(4, c)]).map fun e => e.map Prod.snd) = named.map fun c => [c] := by
    simp [Function.comp_def]
  have good : firstBad 2 (decide (named.length ≤ 24) :: named.map validCredential) = none := by
    simpa [firstBad_eq_none, few] using valid
  have flat : (named.map fun c => [c]).flatten = named := (flatten_singletons id named).trans (List.map_id _)
  rw [reconcileFields, bytes]
  simp only [List.map_cons, List.map_nil] at read entries
  simp only [read, roomOfNumber_roomNumber, entries, flat, good]

theorem carryFields_bytesOf (a : StationId) {payload : List Byte} (some : 1 ≤ payload.length) (few : payload.length ≤ 160) :
    carryFields (bytesOf 1 (fieldAddress a) ++ bytesOf 1 payload.length ++ payload) = .ok (a, payload) := by
  have number := fieldAddress_fits a
  have read := readCounted_written (head := [(1, fieldAddress a), (1, payload.length)]) (entry := [1])
    (entries := payload.map fun b => [(1, b.toNat)]) (by simp only [fit_cons, fit_nil, and_true]; omega) (by simp) (by simp)
    (by simpa [fit_cons] using fun b _ => b.isLt)
  have bytes : bytesOf 1 (fieldAddress a) ++ bytesOf 1 payload.length ++ payload
      = written [(1, fieldAddress a), (1, payload.length)] ++ (payload.map fun b => [(1, b.toNat)]).flatMap written := by
    simp [written, List.flatMap_map, bytesOf]
  have entries : ((payload.map fun b => [(1, b.toNat)]).map fun e => e.map Prod.snd) = payload.map fun b => [b.toNat] := by
    simp [Function.comp_def]
  have flat : (payload.map fun b => [b.toNat]).flatten.map (BitVec.ofNat 8) = payload := by
    rw [flatten_singletons, List.map_map]
    simp [Function.comp_def]
  rw [carryFields, bytes]
  simp only [List.map_cons, List.map_nil] at read entries
  simp only [read, stationOfAddress_fieldAddress, entries, flat]
  rw [if_pos (by simp [within, Config.carryMax, some, few])]

theorem programFields_bytesOf (n : ProgramId) {steps : List Step} (short : steps.length ≤ 8) (ranges : ∀ x ∈ steps, x.inRange) :
    programFields (bytesOf 1 n.val ++ programBytes steps) = .ok (n, steps) := by
  have length : (positionsOf steps).length = 8 := by
    simp only [positionsOf, List.length_append, List.length_map, List.length_replicate]
    omega
  have codes : ∀ p ∈ positionsOf steps, p.code < 256 ∧ p.count < 256 := by
    intro p mem
    simp only [positionsOf, List.mem_append, List.mem_map, List.mem_replicate] at mem
    obtain ⟨x, mem, rfl⟩ | ⟨-, rfl⟩ := mem
    · have code := (Step.fields_code x).2
      refine ⟨by omega, ?_⟩
      cases x with
      | wait k =>
        have range : 1 ≤ k ∧ k ≤ 127 := ranges _ mem
        show k < 256
        omega
      | _ => exact Nat.zero_lt_succ _
    · exact ⟨Nat.zero_lt_succ _, Nat.zero_lt_succ _⟩
  let entries : List (List (Nat × Nat)) := (positionsOf steps).map fun p => [(1, p.code), (1, p.count)]
  have bytes : programBytes steps = entries.flatMap written ++ [] := by
    simp [programBytes, entries, List.flatMap_def, Function.comp_def, written]
  have head := readFields_written (fields := [(1, n.val)]) (by simp only [fit_cons, fit_nil, and_true]; omega) 1
    (programBytes steps)
  have list := readEntries_written (sizes := [1, 1]) (entries := entries) (by simp [entries])
    (by simpa [entries, fit_cons] using codes) 2 []
  have eight : entries.length = 8 := by rw [List.length_map, length]
  rw [eight, ← bytes] at list
  simp only [written_one, List.map_cons, List.map_nil] at head
  have back : ((entries.map fun e => e.map Prod.snd).map fun e => (⟨e.getD 0 0, e.getD 1 0⟩ : StepFields))
      = positionsOf steps := by
    simp [entries, Function.comp_def]
  rw [programFields, head]
  simp only [list, back, List.getD_cons_zero, programOfNumber_val]
  rw [show badPosition 2 true (positionsOf steps) = none from badPosition_program 2 ranges _]
  simp only [stepsOf_positionsOf]

/-! ## The tables' records -/

theorem staffFields_bytesOf {u : Staff} (valid : validCredential u.credential = true) (low : 1 ≤ u.staffNumber)
    (high : u.staffNumber ≤ 999999) (ratio1 : 1 ≤ u.ratio) (ratio4 : u.ratio ≤ 4) :
    staffFields (bytesOf 4 u.credential ++ bytesOf 3 u.staffNumber ++ bytesOf 4 u.zoneMask.toNat ++ bytesOf 1 u.ratio
      ++ bytesOf 1 (yesNo u.mayEnterAlone) ++ bytesOf 1 (yesNo u.active)) = .ok u := by
  have credential := credential_fits valid
  have mask := u.zoneMask.isLt
  have bit (b : Bool) : yesNo b < 256 ^ 1 ∧ yesNo b ≤ 1 := by cases b <;> decide
  have read := readAll_written
    (fields := [(4, u.credential), (3, u.staffNumber), (4, u.zoneMask.toNat), (1, u.ratio), (1, yesNo u.mayEnterAlone),
      (1, yesNo u.active)])
    (by
      simp only [fit_cons, fit_nil, and_true]
      exact ⟨credential, by omega, mask, by omega, (bit _).1, (bit _).1⟩)
  simp only [written, List.flatMap_cons, List.flatMap_nil, List.append_nil, List.map_cons, List.map_nil] at read
  have good : firstBad 1 [validCredential u.credential, within 1 u.staffNumber 999999, true, within 1 u.ratio 4,
      decide (yesNo u.mayEnterAlone ≤ 1), decide (yesNo u.active ≤ 1)] = none := by
    simp [firstBad_eq_none, valid, within, low, high, ratio1, ratio4, (bit _).2]
  simp only [staffFields, List.append_assoc, read, good]
  obtain ⟨_, _, _, _, alone, active⟩ := u
  cases alone <;> cases active <;> simp [yesNo]

/-- The fields of one grant entry (12 R185). -/
def Grant.entry (g : Grant) : List (Nat × Nat) :=
  [(4, g.zoneMask.toNat), (4, g.validFrom), (4, g.validUntil), (2, g.opens), (2, g.closes), (1, g.weekdays.toNat),
    (1, g.rule.code), (2, g.maxStay)]

theorem Grant.written_entry (g : Grant) : written g.entry = encodeGrant g := by
  simp [written, Grant.entry, encodeGrant, byte1]

theorem Grant.inRange.fit {g : Grant} (h : g.inRange) : fit g.entry := by
  obtain ⟨⟨_, _⟩, _, ⟨_, _⟩, ⟨_, _⟩, ⟨_, _⟩⟩ := h
  have mask := g.zoneMask.isLt
  have days := g.weekdays.isLt
  have rule : g.rule.code < 256 := by cases g.rule <;> decide
  simp only [Grant.entry, fit_cons, fit_nil, and_true]
  exact ⟨mask, by omega, by omega, by omega, by omega, days, rule, by omega⟩

theorem Grant.inRange.checks {g : Grant} (h : g.inRange) : ∀ b ∈ grantChecks (g.entry.map Prod.snd), b = true := by
  obtain ⟨⟨before, dates⟩, opens, ⟨close1, close2⟩, ⟨days1, days2⟩, ⟨stay1, stay2⟩⟩ := h
  have rule : g.rule.code ≤ 2 := by cases g.rule <;> decide
  simp [Grant.entry, grantChecks, within, before, dates, opens, close1, close2, days1, days2, stay1, stay2, rule]
  omega

theorem Grant.grantOf_entry (g : Grant) : grantOf (g.entry.map Prod.snd) = some g := by
  obtain ⟨mask, _, _, _, _, days, rule, _⟩ := g
  cases rule <;> simp [Grant.entry, grantOf, EscortRule.code, escortRuleOfCode]

/-- A LOAD PERMIT with its fields in range reads as its terms; KEEP needs the record. -/
theorem permitTerms_bytesOf {known : Nat → Bool} {c n company code level : Nat} {grants : List Grant}
    (h : LoadPermitInRange c n company code level grants) (keep : code = 3 → known c = true) :
    permitTerms known (loadPermitBytes c n company code level grants)
      = .ok { credential := c, permitNumber := n, company := company, lock := lockSettingOf code level, grants := grants } := by
  obtain ⟨valid, ⟨number1, number2⟩, ⟨company1, company2⟩, lock, ⟨byte, fixed⟩, ⟨count1, count4⟩, ranges⟩ := h
  let head : List (Nat × Nat) := [(4, c), (3, n), (2, company), (1, code), (1, level), (1, grants.length)]
  have fits : fit head := by
    simp only [head, fit_cons, fit_nil, and_true]
    exact ⟨credential_fits valid, by omega, by omega, by omega, by omega, by omega⟩
  have read := readCounted_written (entry := [4, 4, 4, 2, 2, 1, 1, 2]) (entries := grants.map Grant.entry) fits (by simp [head])
    (by simp [Grant.entry]) (by simpa using fun g mem => (ranges g mem).fit)
  have bytes : loadPermitBytes c n company code level grants = written head ++ (grants.map Grant.entry).flatMap written := by
    have encoded : written ∘ Grant.entry = encodeGrant := funext Grant.written_entry
    simp [List.flatMap_def, encoded, loadPermitBytes, head, written]
  have values : ((grants.map Grant.entry).map fun e => e.map Prod.snd) = grants.map fun g => g.entry.map Prod.snd := by
    simp [Function.comp_def]
  have back : (grants.map fun g => g.entry.map Prod.snd).filterMap grantOf = grants := by
    simp [List.filterMap_map, Grant.grantOf_entry]
  have good : firstBad 1 ([validCredential c, within 1 n 999999, within 1 company 65535,
      decide (code ≤ 3) && (code != 3 || known c), code != 2 || decide (level ≤ 15), within 1 grants.length 4]
        ++ ((grants.map fun g => g.entry.map Prod.snd).map grantChecks).flatten) = none := by
    rw [firstBad_eq_none]
    intro b mem
    rcases List.mem_append.mp mem with first | entry
    · simp only [List.mem_cons, List.not_mem_nil, or_false] at first
      rcases first with rfl | rfl | rfl | rfl | rfl | rfl
      · exact valid
      · simp [within, number1, number2]
      · simp [within, company1, company2]
      · by_cases three : code = 3
        · simp [three, keep three]
        · simp [three, lock]
      · by_cases two : code = 2
        · simp [two, fixed two]
        · simp [two]
      · simp [within, count1, count4]
    · simp only [List.mem_flatten, List.mem_map, exists_exists_and_eq_and] at entry
      obtain ⟨g, mem, check⟩ := entry
      exact (ranges g mem).checks b check
  rw [permitTerms, bytes]
  simp only [head, List.map_cons, List.map_nil, values] at read
  simp only [head, read, good, back]

end Sys2Proof.Machine

/-! PROOF. The requests on the Permit Table and the Escort Roster (O24 to O28, O30 to O33). -/

namespace Sys2Proof.Machine

set_option Elab.async false

/-! ## A request at the head, taken or waiting (09 R162 to R164) -/

theorem executeRequest_of_atHead {s t : State} {tag name : Nat} {body : List Byte} {rest : List Request} {isRow : Nat → Bool}
    {rule : Request → State → Executed} {status : Status} {data : AnswerData} (head : s.atHead tag name body rest)
    (row : isRow name = true)
    (ran : rule { tag := tag, name := name, body := body } (s.taken rest) = answered t status data) :
    s.executeRequest isRow rule = t.plusAnswer tag name status data := by
  rw [State.executeRequest, takeRequest_of_atHead head]
  simp only [row, if_true, ran]
  rfl

/-- Where nothing can be taken, a request row changes nothing. -/
theorem executeRequest_waits {s : State} (waits : s.mayExecute = false ∨ s.trunk.commands = []) (isRow : Nat → Bool)
    (rule : Request → State → Executed) : s.executeRequest isRow rule = s := by
  have none : s.takeRequest = none := by
    rcases waits with idle | empty
    · simp [State.takeRequest, idle]
    · simp [State.takeRequest, empty]
  rw [State.executeRequest, none]

/-! ## Requests that name one credential -/

/-- A body that holds no valid credential is refused at field 1. -/
theorem credentialField_refused {body : List Byte} (bad : body.length < 4 ∨ body = bytesOf 4 0 ∨ body = bytesOf 4 4294967295) :
    credentialField body = .error 1 := by
  rcases bad with short | rfl | rfl
  · simp [credentialField, readAll, readFields, short]
  · exact credentialField_bytesOf_invalid (by norm_num) (by decide)
  · exact credentialField_bytesOf_invalid (by norm_num) (by decide)

/-- Settles O24: each refusal is the rule's first test, and a waiting executor takes no row. -/
theorem requestsThatChangeNothing : Obligations.RequestsThatChangeNothing := by
  refine ⟨fun tag name body rest s head unknown => ?_, fun tag body rest s bad => ?_, fun c s row waits => ?_⟩
  · have row : (!knownName name) = true := by
      rcases unknown with rfl | high
      · rfl
      · simp [knownName]
        omega
    exact congrArg Host.Outcome.next (executeRequest_of_atHead head row rfl)
  · have refused := credentialField_refused bad
    refine ⟨fun head => ?_, fun head => ?_, fun head => ?_, fun head => ?_, fun head => ?_, fun head => ?_⟩
    · exact congrArg Host.Outcome.next (executeNamed_of_atHead head (by simp only [dropPermitRule, refused]; rfl))
    · exact congrArg Host.Outcome.next (executeNamed_of_atHead head (by simp only [suspendPermitRule, refused]; rfl))
    · exact congrArg Host.Outcome.next (executeNamed_of_atHead head (by simp only [revokePermitRule, refused]; rfl))
    · exact congrArg Host.Outcome.next (executeNamed_of_atHead head (by simp only [readPermitRule, refused]; rfl))
    · exact congrArg Host.Outcome.next (executeNamed_of_atHead head (by simp only [dropEscortRule, refused]; rfl))
    · exact congrArg Host.Outcome.next (executeNamed_of_atHead head (by simp only [readEscortRule, refused]; rfl))
  · have idle : s.mayExecute = false ∨ s.trunk.commands = [] := by
      rcases waits with full | held | off | empty
      · left
        have none : decide (s.reports.answers.length < Config.answerPlaces) = false := decide_eq_false (by
          simp only [Config.answerPlaces]
          omega)
        rw [State.mayExecute, none, Bool.and_false]
      · left
        simp [State.mayExecute, held]
      · left
        simp [State.mayExecute, State.isRunning, off]
      · exact .inr empty
    simp only [List.mem_cons, List.not_mem_nil, or_false] at row
    rcases row with rfl | rfl | rfl | rfl | rfl | rfl | rfl | rfl | rfl | rfl | rfl | rfl | rfl | rfl | rfl | rfl | rfl | rfl |
      rfl | rfl | rfl | rfl | rfl | rfl | rfl | rfl | rfl | rfl
    all_goals exact congrArg Host.Outcome.next (executeRequest_waits idle _ _)

/-! ## Where a holder is (01 R17, R21) -/

theorem State.contractorPosition_inside {s : State} {c : Nat} {q : Presence} (h : s.presenceOf c = some q) :
    s.contractorPosition c = .inside q.room := by
  rw [State.contractorPosition, h]

theorem State.staffPosition_inside {s : State} {c : Nat} {q : Presence} (h : s.presenceOf c = some q) :
    s.staffPosition c = .inside q.room := by
  rw [State.staffPosition, h]

theorem State.outside_iff {s : State} {c : Nat} :
    s.outside c ↔ s.presenceOf c = none ∧ ∀ r, (s.slot r).holdsMember c = false := by
  rw [State.outside, State.presenceOf_eq_none]
  refine and_congr_right fun _ => ⟨fun none r => ?_, fun none r p party m mem same => ?_⟩
  · rw [Bool.eq_false_iff]
    intro member
    obtain ⟨p, party, m, mem, same⟩ := Slot.holdsMember_iff.mp member
    exact none r p party m mem same
  · exact absurd (Slot.holdsMember_iff.mpr ⟨p, party, m, mem, same⟩) (by simp [none r])

theorem State.contractorPosition_eq_outside {s : State} {c : Nat} : s.contractorPosition c = .outside ↔ s.outside c := by
  rw [State.outside_iff]
  constructor
  · intro position
    refine ⟨?_, State.contractorPosition_outside position⟩
    cases inside : s.presenceOf c with
    | none => rfl
    | some q => cases (State.contractorPosition_inside inside).symm.trans position
  · rintro ⟨absent, none⟩
    have nowhere : s.partyRoomOf c = .none := List.find?_eq_none.mpr fun r _ => by simp [none r]
    rw [State.contractorPosition, absent, nowhere]

theorem State.staffPosition_of_idle {s : State} {c : Nat} (h : s.idleStaff c) : s.staffPosition c = .outside := by
  obtain ⟨absent, none⟩ := h
  have nowhere : s.leadOf c = .none := by
    refine List.findSome?_eq_none_iff.mpr fun r _ => ?_
    cases slot : s.slot r with
    | lead l => exact if_neg (none r l slot)
    | _ => rfl
  rw [State.staffPosition, State.presenceOf_eq_none.mpr absent, nowhere]

/-- Settles O31: the record leaves the table of a holder outside, and a holder inside keeps it. -/
theorem dropsRemoveTheRecord : Obligations.DropsRemoveTheRecord := by
  intro tag c rest s valid
  have field := credentialField_bytesOf valid
  refine ⟨fun head p held => ⟨fun outside => ?_, fun q inside => ?_⟩, fun head u held => ⟨fun idle => ?_, fun q inside => ?_⟩⟩
  · have permit : (s.taken rest).permitOf c = some p := held
    have position : (s.taken rest).contractorPosition c = .outside := State.contractorPosition_eq_outside.mpr outside
    exact congrArg Host.Outcome.next (executeNamed_of_atHead head (by simp only [dropPermitRule, field, permit, position]; rfl))
  · have permit : (s.taken rest).permitOf c = some p := held
    have position : (s.taken rest).contractorPosition c = .inside q.room := State.contractorPosition_inside inside
    exact congrArg Host.Outcome.next (executeNamed_of_atHead head (by simp only [dropPermitRule, field, permit, position]))
  · have staff : (s.taken rest).staffOf c = some u := held
    have position : (s.taken rest).staffPosition c = .outside := State.staffPosition_of_idle idle
    exact congrArg Host.Outcome.next (executeNamed_of_atHead head (by simp only [dropEscortRule, field, staff, position]; rfl))
  · have staff : (s.taken rest).staffOf c = some u := held
    have position : (s.taken rest).staffPosition c = .inside q.room := State.staffPosition_inside inside
    exact congrArg Host.Outcome.next (executeNamed_of_atHead head (by simp only [dropEscortRule, field, staff, position]))

/-- Settles O30: the four READ rules answer with pictures of the state they leave. -/
theorem readsChangeNothing : Obligations.ReadsChangeNothing := by
  refine ⟨fun tag c p rest s valid head held outside => ?_, fun tag c u q rest s valid head held inside => ?_,
    fun tag first r rest s low head => ⟨(s.taken rest).roomPicture r first, ?_, rfl, rfl, rfl, rfl, rfl, rfl, rfl, rfl, rfl, rfl⟩,
    fun tag rest s head => ⟨_, exec_readStatus_of_atHead head, rfl, rfl, rfl, rfl, rfl, rfl, rfl, rfl, rfl, rfl⟩⟩
  · have permit : (s.taken rest).permitOf c = some p := held
    have position : (s.taken rest).contractorPosition c = .outside := State.contractorPosition_eq_outside.mpr outside
    exact congrArg Host.Outcome.next
      (executeNamed_of_atHead head (by simp only [readPermitRule, credentialField_bytesOf valid, permit, position]; rfl))
  · have staff : (s.taken rest).staffOf c = some u := held
    have position : (s.taken rest).staffPosition c = .inside q.room := State.staffPosition_inside inside
    exact congrArg Host.Outcome.next
      (executeNamed_of_atHead head (by simp only [readEscortRule, credentialField_bytesOf valid, staff, position]; rfl))
  · exact congrArg Host.Outcome.next (executeNamed_of_atHead head (by simp only [readRoomRule, readRoomFields_bytesOf r low]))

/-! ## Withdrawals (01 R11 to R14) -/

/-- An operation on the rooms in turn that matters at one of them only. -/
theorem foldl_at_one {α β : Type} {op : β → α → β} {l : List α} {r : α} {s : β} (once : l.Nodup) (mem : r ∈ l)
    (before : ∀ q, q ≠ r → op s q = s) (after : ∀ q, q ≠ r → op (op s r) q = op s r) : l.foldl op s = op s r := by
  induction l with
  | nil => cases mem
  | cons q l ih =>
    obtain ⟨new, once⟩ := List.nodup_cons.mp once
    by_cases here : q = r
    · subst here
      rw [List.foldl_cons]
      have idle (l : List α) (new : q ∉ l) : l.foldl op (op s q) = op s q := by
        induction l with
        | nil => rfl
        | cons p l ih =>
          obtain ⟨other, new⟩ := not_or.mp (mt List.mem_cons.mpr new)
          rw [List.foldl_cons, after p (Ne.symm other), ih new]
      exact idle l new
    · rw [List.foldl_cons, before q here]
      exact ih once ((List.mem_cons.mp mem).resolve_left (Ne.symm here))

/-- Among entries of different keys the one of a key is found. -/
theorem find?_of_nodup {α : Type} {key : α → Nat} {l : List α} {x : α} {c : Nat} (once : (l.map key).Nodup) (mem : x ∈ l)
    (is : key x = c) : l.find? (fun y => key y == c) = some x := by
  subst is
  induction l with
  | nil => cases mem
  | cons y l ih =>
    obtain ⟨first, once⟩ := List.nodup_cons.mp once
    rcases List.mem_cons.mp mem with rfl | mem
    · exact List.find?_cons_of_pos (by simp)
    · have other : key y ≠ key x := fun same => first (same ▸ List.mem_map_of_mem mem)
      rw [List.find?_cons_of_neg (by simpa using other), ih once mem]

theorem foldl_at_none {α β : Type} {op : β → α → β} {l : List α} {s : β} (idle : ∀ q, op s q = s) : l.foldl op s = s := by
  induction l with
  | nil => rfl
  | cons q l ih => rw [List.foldl_cons, idle, ih]

theorem allRooms_nodup : allRooms.Nodup := by decide

section
variable {s : State} {c : Nat} {reason : Reason} {r : RoomId} {y : Party} {m : Member}

theorem State.withdrawAt_of_not_member (h : (s.slot r).holdsMember c = false) : s.withdrawAt r c reason = s := by
  unfold State.withdrawAt
  split
  · next party slot =>
    have none : party.members.find? (fun m => m.credential == c) = none := by
      rw [List.find?_eq_none]
      intro m mem same
      have member : (s.slot r).holdsMember c = true := Slot.holdsMember_iff.mpr ⟨party, slot, m, mem, by simpa using same⟩
      rw [h] at member
      cases member
    rw [none]
  · rfl

theorem State.withdraw_of_outside {x : PermitState} (h : s.outside c) : s.withdraw c x = s := by
  obtain ⟨absent, none⟩ := State.outside_iff.mp h
  rw [State.withdraw, foldl_at_none fun r => State.withdrawAt_of_not_member (none r), State.withdrawInside, absent]

/-- The slot of a party that a member has left, as the rule lists it. -/
theorem Slot.without_party (mem : m ∈ y.members) (same : m.credential = c) :
    (Slot.party y).without c = match y.members.filter fun n : Member => n.credential != c with
      | [] => .empty
      | n :: others => .party { y with members := n :: others } := by
  have any : y.members.any (fun m => m.credential == c) = true := List.any_eq_true.mpr ⟨m, mem, by simp [same]⟩
  exact if_pos any

theorem State.withdrawAt_member (slot : s.slot r = .party y) (found : y.members.find? (fun n => n.credential == c) = some m) :
    s.withdrawAt r c reason = { s with
      slots := put s.slots r ((s.slot r).without c)
      rooms := s.roomsShowing r .entry .denied
      reports := s.reports.offerRoutine (.verdict (s.verdictOfMember r m y.members.length .deny reason)) } := by
  rw [State.withdrawAt]
  simp only [slot, found]
  rfl

end

/-- Settles O27: outside, a withdrawal reaches nobody. -/
theorem suspendAndRevokeOutside : Obligations.SuspendAndRevokeOutside := by
  intro tag c p rest s valid held outside changed
  have field := credentialField_bytesOf valid
  have permit : (s.taken rest).permitOf c = some p := held
  have reaches (x : PermitState) : ((s.taken rest).setPermitState c x).withdraw c x = changed x :=
    State.withdraw_of_outside outside
  refine ⟨fun head => ?_, fun head => ?_⟩
  · cases state : p.state with
    | active =>
      exact congrArg Host.Outcome.next
        (executeNamed_of_atHead head (by simp only [suspendPermitRule, field, permit, state, reaches]))
    | suspended =>
      exact congrArg Host.Outcome.next (executeNamed_of_atHead head (by simp only [suspendPermitRule, field, permit, state]))
    | revoked =>
      exact congrArg Host.Outcome.next (executeNamed_of_atHead head (by simp only [suspendPermitRule, field, permit, state]))
  · cases state : p.state with
    | revoked =>
      exact congrArg Host.Outcome.next (executeNamed_of_atHead head (by simp only [revokePermitRule, field, permit, state]))
    | active =>
      exact congrArg Host.Outcome.next
        (executeNamed_of_atHead head (by simp only [revokePermitRule, field, permit, state, reaches]))
    | suspended =>
      exact congrArg Host.Outcome.next
        (executeNamed_of_atHead head (by simp only [revokePermitRule, field, permit, state, reaches]))

/-- Settles O28: inside, the roll's record is marked; in a party, the one room that holds the member denies it. -/
theorem withdrawalReachesTheHolder : Obligations.WithdrawalReachesTheHolder := by
  intro tag c p rest s valid held sound request name new reason which head permits
  have field := credentialField_bytesOf valid
  have permit : (s.taken rest).permitOf c = some p := held
  have ran : exec request s = .next ((((s.taken rest).setPermitState c new).withdraw c new).plusAnswer tag name .done
      (.previousPermitState p.state)) := by
    obtain ⟨rfl, rfl, rfl, -, active⟩ | ⟨rfl, rfl, rfl, -, notRevoked⟩ := which
    · exact congrArg Host.Outcome.next
        (executeNamed_of_atHead head (by simp only [suspendPermitRule, field, permit, active]))
    · refine congrArg Host.Outcome.next (executeNamed_of_atHead head ?_)
      cases state : p.state with
      | revoked => exact absurd state notRevoked
      | active => simp only [revokePermitRule, field, permit, state]
      | suspended => simp only [revokePermitRule, field, permit, state]
  have why : new.withdrawalReason = reason := by
    obtain ⟨-, -, rfl, rfl, -⟩ | ⟨-, -, rfl, rfl, -⟩ := which
    · rfl
    · rfl
  let u : State := (s.taken rest).setPermitState c new
  refine ⟨fun q k inside contractor => ?_, fun r y m slot mem same => ?_⟩
  · obtain ⟨onRoll, credential⟩ := State.presenceOf_some inside
    have noParty (r : RoomId) : (u.slot r).holdsMember c = false := by
      rw [Bool.eq_false_iff]
      intro member
      obtain ⟨y, slot, m, mem, same⟩ := Slot.holdsMember_iff.mp member
      exact sound.membersOff r y slot m mem q onRoll (credential.trans same.symm)
    have present : u.presenceOf c = some q := inside
    rw [ran, State.withdraw, foldl_at_none fun r => State.withdrawAt_of_not_member (noParty r), State.withdrawInside, present]
    simp only [contractor]
    subst credential
    rfl
  · have offRoll : u.presenceOf c = none := State.presenceOf_eq_none.mpr (same ▸ sound.membersOff r y slot m mem)
    have member : (u.slot r).holdsMember c = true := Slot.holdsMember_iff.mpr ⟨y, slot, m, mem, same⟩
    have elsewhere (q : RoomId) (other : q ≠ r) : (u.slot q).holdsMember c = false := by
      rw [Bool.eq_false_iff]
      intro also
      obtain ⟨k, slotQ, n, memQ, sameQ⟩ := Slot.holdsMember_iff.mp also
      exact sound.membersApart r q y k (Ne.symm other) slot slotQ m mem n memQ (same.trans sameQ.symm)
    have found : y.members.find? (fun n => n.credential == c) = some m :=
      find?_of_nodup (sound.membersOnce r y slot) mem same
    have left : u.withdrawAt r c reason = _ := State.withdrawAt_member slot found
    have all : allRooms.foldl (fun x q => x.withdrawAt q c new.withdrawalReason) u = u.withdrawAt r c reason := by
      rw [why]
      refine foldl_at_one allRooms_nodup (mem_allRooms r) (fun q other => State.withdrawAt_of_not_member (elsewhere q other))
        fun q other => State.withdrawAt_of_not_member ?_
      rw [left]
      exact (congrArg (fun x => Slot.holdsMember x c) (look_put_other _ _ _ _ (Ne.symm other))).trans (elsewhere q other)
    have settled : (u.withdrawAt r c reason).withdrawInside c new = u.withdrawAt r c reason := by
      have off : (u.withdrawAt r c reason).presenceOf c = none := by
        rw [left]
        exact offRoll
      rw [State.withdrawInside, off]
    rw [ran, State.withdraw, show ((s.taken rest).setPermitState c new) = u from rfl, all, settled, left]
    have slotIs : u.slot r = .party y := slot
    rw [slotIs, Slot.without_party mem same]
    rfl

end Sys2Proof.Machine

/-! PROOF. What the requests that load, purge and clear leave in the two tables (O25, O26, O32, O33). -/

namespace Sys2Proof.Machine

set_option Elab.async false

/-! ## The tables after a record has been put in or taken out -/

theorem find?_insertPermit (p : Permit) (l : List Permit) (new : ∀ q ∈ l, q.credential ≠ p.credential) (d : Nat) :
    (insertPermit p l).find? (fun q => q.credential == d)
      = if p.credential = d then some p else l.find? fun q => q.credential == d := by
  induction l with
  | nil => by_cases here : p.credential = d <;> simp [insertPermit, here]
  | cons q l ih =>
    obtain ⟨apart, new⟩ := List.forall_mem_cons.mp new
    rw [insertPermit]
    split
    · by_cases here : p.credential = d <;> simp [here]
    · by_cases there : q.credential = d
      · have other : p.credential ≠ d := fun here => apart (there.trans here.symm)
        simp [there, other]
      · rw [List.find?_cons_of_neg (by simpa using there), ih new, List.find?_cons_of_neg (by simpa using there)]

theorem find?_insertStaff (t : Staff) (l : List Staff) (new : ∀ u ∈ l, u.credential ≠ t.credential) (d : Nat) :
    (insertStaff t l).find? (fun u => u.credential == d)
      = if t.credential = d then some t else l.find? fun u => u.credential == d := by
  induction l with
  | nil => by_cases here : t.credential = d <;> simp [insertStaff, here]
  | cons u l ih =>
    obtain ⟨apart, new⟩ := List.forall_mem_cons.mp new
    rw [insertStaff]
    split
    · by_cases here : t.credential = d <;> simp [here]
    · by_cases there : u.credential = d
      · have other : t.credential ≠ d := fun here => apart (there.trans here.symm)
        simp [there, other]
      · rw [List.find?_cons_of_neg (by simpa using there), ih new, List.find?_cons_of_neg (by simpa using there)]

/-- Taking out one key's entries leaves what is found under every other key. -/
theorem find?_filter_other {α : Type} {key : α → Nat} {c d : Nat} (other : d ≠ c) (l : List α) :
    (l.filter fun x => key x != c).find? (fun x => key x == d) = l.find? fun x => key x == d := by
  rw [List.find?_filter]
  congr 1
  funext x
  by_cases here : key x = d
  · simp [here, other]
  · simp [here]

/-- The permit table with a record in place of what its credential had. -/
theorem State.permitOf_stored {s : State} {p : Permit} {c : Nat} (own : p.credential = c) (d : Nat) :
    (s.withPermits (insertPermit p (removePermit c s.permits))).permitOf d = if d = c then some p else s.permitOf d := by
  have new : ∀ q ∈ removePermit c s.permits, q.credential ≠ p.credential := by
    intro q mem
    have apart := (List.mem_filter.mp mem).2
    simpa [own] using apart
  show (insertPermit p (removePermit c s.permits)).find? (fun q => q.credential == d) = _
  rw [find?_insertPermit p _ new d, own]
  by_cases here : d = c
  · rw [if_pos here.symm, if_pos here]
  · rw [if_neg (Ne.symm here), if_neg here]
    exact find?_filter_other here s.permits

/-- The roster with a record in place of what its credential had. -/
theorem State.staffOf_stored {s : State} (u : Staff) (d : Nat) :
    (s.withRoster (insertStaff u (removeStaff u.credential s.roster))).staffOf d
      = if d = u.credential then some u else s.staffOf d := by
  have new : ∀ v ∈ removeStaff u.credential s.roster, v.credential ≠ u.credential := by
    intro v mem
    simpa using (List.mem_filter.mp mem).2
  show (insertStaff u (removeStaff u.credential s.roster)).find? (fun v => v.credential == d) = _
  rw [find?_insertStaff u _ new d]
  by_cases here : d = u.credential
  · rw [if_pos here.symm, if_pos here]
  · rw [if_neg (Ne.symm here), if_neg here]
    exact find?_filter_other here s.roster

/-! ## LOAD ESCORT (01 R19) -/

/-- Settles O33: the rule's four ends, the stored record in its place. -/
theorem loadEscortStores : Obligations.LoadEscortStores := by
  intro tag u rest s valid low high ratio1 ratio4 head
  have fields := staffFields_bytesOf valid low high ratio1 ratio4
  let t : State := (s.taken rest).withRoster (insertStaff u (removeStaff u.credential s.roster))
  have own : t.staffOf u.credential = some u := (State.staffOf_stored (s := s.taken rest) u _).trans (if_pos rfl)
  have others (d : Nat) (other : d ≠ u.credential) : t.staffOf d = s.staffOf d :=
    (State.staffOf_stored (s := s.taken rest) u d).trans (if_neg other)
  refine ⟨fun p held => ?_, fun absent new full => ?_, fun absent new place => ?_, fun old absent held => ?_⟩
  · have permit : ((s.taken rest).permitOf u.credential).isSome = true := by rw [show (s.taken rest).permitOf _ = _ from held]; rfl
    exact congrArg Host.Outcome.next (executeNamed_of_atHead head (by simp only [loadEscortRule, fields, permit, if_true]))
  · have permit : ((s.taken rest).permitOf u.credential).isSome = false := by rw [show (s.taken rest).permitOf _ = _ from absent]; rfl
    have staff : (s.taken rest).staffOf u.credential = none := new
    have noPlace : ¬ (s.taken rest).roster.length < Config.rosterPlaces := Nat.not_lt.mpr full
    exact congrArg Host.Outcome.next (executeNamed_of_atHead head
      (by simp only [loadEscortRule, fields, permit, Bool.false_eq_true, if_false, staff, if_neg noPlace]))
  · have permit : ((s.taken rest).permitOf u.credential).isSome = false := by rw [show (s.taken rest).permitOf _ = _ from absent]; rfl
    have staff : (s.taken rest).staffOf u.credential = none := new
    have hasPlace : (s.taken rest).roster.length < Config.rosterPlaces := place
    have same : removeStaff u.credential s.roster = s.roster :=
      List.filter_eq_self.mpr fun v mem => by simpa using State.staffOf_eq_none.mp new v mem
    have length : t.roster.length = s.roster.length + 1 := by
      show (insertStaff u (removeStaff u.credential s.roster)).length = _
      rw [same, (insertStaff_perm u s.roster).length_eq, List.length_cons]
    refine ⟨t, ?_, rfl, own, others⟩
    rw [← length]
    exact congrArg Host.Outcome.next (executeNamed_of_atHead head
      (by simp only [loadEscortRule, fields, permit, Bool.false_eq_true, if_false, staff, if_pos hasPlace]; rfl))
  · have permit : ((s.taken rest).permitOf u.credential).isSome = false := by rw [show (s.taken rest).permitOf _ = _ from absent]; rfl
    have staff : (s.taken rest).staffOf u.credential = some old := held
    exact ⟨t, congrArg Host.Outcome.next (executeNamed_of_atHead head
      (by simp only [loadEscortRule, fields, permit, Bool.false_eq_true, if_false, staff]; rfl)), rfl, own, others⟩

/-! ## PURGE PERMITS and CLEAR TABLES (01 R18, R22) -/

theorem sum_filter_add_sum_filter_not {α : Type} (l : List α) (keep : α → Bool) (f : α → Nat) :
    ((l.filter keep).map f).sum + ((l.filter fun x => !keep x).map f).sum = (l.map f).sum := by
  induction l with
  | nil => rfl
  | cons x l ih =>
    cases here : keep x <;> simp [here] <;> omega

theorem State.purgeable_iff {s : State} {p : Permit} :
    s.purgeable p = true ↔ (∀ g ∈ p.grants, g.validUntil ≤ s.clock.minute) ∧ s.outside p.credential := by
  rw [State.purgeable, Bool.and_eq_true, beq_iff_eq, State.contractorPosition_eq_outside]
  simp

/-- Settles O32: the purge by its test, and the clear by what is held. -/
theorem purgeAndClear : Obligations.PurgeAndClear := by
  refine ⟨fun tag rest s head => ⟨fun unset => ?_, fun known => ?_⟩, fun tag rest s head => ⟨fun nobody empty => ?_, fun held => ?_⟩⟩
  · have is : (s.taken rest).clock.timeState = .unset := unset
    exact congrArg Host.Outcome.next (executeNamed_of_atHead head ((if_pos is : ite _ _ _ = _)))
  · have isNot : (s.taken rest).clock.timeState ≠ .unset := known
    let gone := s.permits.filter (s.taken rest).purgeable
    let kept := s.permits.filter fun p => !(s.taken rest).purgeable p
    have lengths : gone.length + kept.length = s.permits.length := by
      simpa [gone, kept] using sum_filter_add_sum_filter_not s.permits (s.taken rest).purgeable fun _ => 1
    have cells : (gone.map fun p => p.grants.length + 1).sum + (kept.map fun p => p.grants.length + 1).sum
        = (s.permits.map fun p => p.grants.length + 1).sum := sum_filter_add_sum_filter_not s.permits _ _
    refine ⟨(s.taken rest).withPermits kept, gone.length, (gone.map fun p : Permit => cellsNeeded p.grants).sum,
      congrArg Host.Outcome.next (executeNamed_of_atHead head (if_neg isNot : ite _ _ _ = _)), rfl, fun p => ?_, ?_, ?_⟩
    · show p ∈ kept ↔ _
      rw [List.mem_filter, Bool.not_eq_true', ← Bool.not_eq_true, State.purgeable_iff]
      rfl
    · show gone.length = s.permits.length - kept.length
      omega
    · show (gone.map fun p => p.grants.length + 1).sum = _ - (kept.map fun p => p.grants.length + 1).sum
      omega
  · have none : ¬ (0 < (s.taken rest).roll.length ∨ 0 < (s.taken rest).partiesPending ∨ 0 < (s.taken rest).leadsHeld) := by
      have slots (r : RoomId) : (s.taken rest).slot r = .empty := empty r
      have roll : (s.taken rest).roll = [] := nobody
      simp [State.partiesPending, State.leadsHeld, slots, roll, Slot.isParty, Slot.isLead]
    refine ⟨freeCount s.retired [],
      congrArg Host.Outcome.next (executeNamed_of_atHead head (if_neg none : ite _ _ _ = _)), ?_⟩
    show ((List.range 2048).filter fun c => !s.retired.retires c && !List.contains [] c).length = _
    simp
  · have some : 0 < (s.taken rest).roll.length ∨ 0 < (s.taken rest).partiesPending ∨ 0 < (s.taken rest).leadsHeld :=
      .inl (List.length_pos_iff.mpr held)
    exact ⟨_, _, congrArg Host.Outcome.next (executeNamed_of_atHead head (if_pos some : ite _ _ _ = _))⟩

/-! ## LOAD PERMIT (01 R7 to R9) -/

theorem filter_not_mem_take {α : Type} [DecidableEq α] {l : List α} (once : l.Nodup) (n : Nat) :
    l.filter (fun x => !(l.take n).contains x) = l.drop n := by
  have apart : List.Disjoint (l.take n) (l.drop n) := List.disjoint_take_drop once le_rfl
  calc l.filter (fun x => !(l.take n).contains x)
      = (l.take n ++ l.drop n).filter (fun x => !(l.take n).contains x) := by rw [List.take_append_drop]
    _ = [] ++ l.drop n := by
      rw [List.filter_append]
      congr 1
      · exact List.filter_eq_nil_iff.mpr fun x mem => by simpa using mem
      · exact List.filter_eq_self.mpr fun x mem => by simpa using fun also => apart also mem
    _ = l.drop n := List.nil_append _

/-- A record that took the lowest free cells leaves the others free. -/
theorem freeCells_stored (m : RetiredMap) {l : List Permit} {p : Permit}
    (taken : p.cells = (freeCells m l).take (cellsNeeded p.grants)) :
    freeCells m (insertPermit p l) = (freeCells m l).drop (cellsNeeded p.grants) := by
  rw [← filter_not_mem_take (freeCells_nodup m l), ← taken, freeCells, freeCells, List.filter_filter]
  congr 1
  funext c
  have used : (usedCells (insertPermit p l)).contains c = (p.cells.contains c || (usedCells l).contains c) := by
    rw [Bool.eq_iff_iff]
    simp [(usedCells_insert p l).mem_iff]
  rw [used]
  cases m.retires c <;> cases p.cells.contains c <;> rfl

section
variable {s : State} {record : Permit} {kind : LoadKind}

/-- The state of a record stored with its cells. -/
def State.storing (s : State) (record : Permit) : State :=
  s.withPermits (insertPermit (record.placed (freeCells s.retired (removePermit record.credential s.permits)))
    (removePermit record.credential s.permits))

theorem State.storePermit_eq (s : State) (kind : LoadKind) (record : Permit) : s.storePermit kind record =
    if (freeCells s.retired (removePermit record.credential s.permits)).length < cellsNeeded record.grants then
      answered s .noRoom
        (.cellsShort (cellsNeeded record.grants) (freeCells s.retired (removePermit record.credential s.permits)).length)
    else answered (s.storing record) .done
      (.permitLoaded kind (cellsNeeded record.grants)
        (freeCells (s.storing record).retired (s.storing record).permits).length) := by
  simp only [State.storePermit, State.storing, State.freeNow, freeCount]

theorem State.storePermit_stored
    (enough : cellsNeeded record.grants ≤ (freeCells s.retired (removePermit record.credential s.permits)).length) :
    s.storePermit kind record = answered (s.storing record) .done
      (.permitLoaded kind (cellsNeeded record.grants) (freeCells (s.storing record).retired (s.storing record).permits).length) :=
  (State.storePermit_eq s kind record).trans (if_neg (Nat.not_lt.mpr enough))

theorem State.storePermit_short
    (short : (freeCells s.retired (removePermit record.credential s.permits)).length < cellsNeeded record.grants) :
    s.storePermit kind record = answered s .noRoom
      (.cellsShort (cellsNeeded record.grants) (freeCells s.retired (removePermit record.credential s.permits)).length) :=
  (State.storePermit_eq s kind record).trans (if_pos short)

theorem State.storing_permitOf (d : Nat) : (s.storing record).permitOf d
    = if d = record.credential then
        some (record.placed (freeCells s.retired (removePermit record.credential s.permits)))
      else s.permitOf d := State.permitOf_stored (Permit.placed_credential record _) d

end

theorem lockSettingOf_replacing (code level : Nat) (held : IssueLock) : (lockSettingOf code level).replacing held
    = if code = 0 then .off else if code = 1 then .learn else if code = 2 then .fixed level else held := by
  match code with
  | 0 => rfl
  | 1 => rfl
  | 2 => rfl
  | n + 3 => rfl

theorem lockSettingOf_inserted {code : Nat} (level : Nat) (h : code ≤ 2) : (lockSettingOf code level).inserted
    = if code = 0 then .off else if code = 1 then .learn else .fixed level := by
  match code with
  | 0 => rfl
  | 1 => rfl
  | 2 => rfl

/-- Settles O25: the new record takes the lowest free cells, and the rest stay free. -/
theorem loadPermitInserts : Obligations.LoadPermitInserts := by
  intro tag c n company code level grants rest s ranges plain head absent noStaff free
  have terms := permitTerms_bytesOf (known := fun c => ((s.taken rest).permitOf c).isSome) ranges fun keep => by omega
  have permit : (s.taken rest).permitOf c = none := absent
  have staff : ((s.taken rest).staffOf c).isSome = false := by rw [show (s.taken rest).staffOf c = _ from noStaff]; rfl
  let record : Permit := PermitTerms.newRecord ⟨c, n, company, lockSettingOf code level, grants⟩
  have ran : loadPermitRule { tag := tag, name := 1, body := loadPermitBytes c n company code level grants } (s.taken rest)
      = (s.taken rest).storePermit .inserted record := by
    simp only [loadPermitRule, terms, staff, Bool.false_eq_true, if_false, permit]
    rfl
  have alone : removePermit c s.permits = s.permits :=
    List.filter_eq_self.mpr fun p mem => by simpa using State.permitOf_eq_none.mp absent p mem
  have cells : freeCells (s.taken rest).retired (removePermit record.credential (s.taken rest).permits) = free :=
    congrArg (freeCells s.retired) alone
  refine ⟨fun enough => ⟨(s.taken rest).storing record, ?_, rfl, ?_, fun d other => ?_⟩, fun short => ?_⟩
  · have stored := State.storePermit_stored (s := s.taken rest) (record := record) (kind := .inserted) (cells ▸ enough)
    have left : (freeCells ((s.taken rest).storing record).retired ((s.taken rest).storing record).permits).length
        = free.length - (grants.length + 1) := by
      have placed : (record.placed free).cells = free.take (cellsNeeded record.grants) := Permit.placed_cells enough
      have after := freeCells_stored s.retired (l := s.permits) (p := record.placed free) placed
      have permits : ((s.taken rest).storing record).permits = insertPermit (record.placed free) s.permits := by
        show insertPermit _ (removePermit c s.permits) = _
        rw [cells, alone]
      rw [permits]
      exact (congrArg List.length after).trans List.length_drop
    rw [left] at stored
    exact congrArg Host.Outcome.next (executeNamed_of_atHead head (ran.trans stored))
  · rw [State.storing_permitOf, if_pos (show c = record.credential from rfl), cells]
    exact congrArg (fun lock => some { record with
      lock := lock, headerCell := free.headD 0, grantCells := (free.drop 1).take grants.length }) (lockSettingOf_inserted level plain)
  · rw [State.storing_permitOf, if_neg (show d ≠ record.credential from other)]
    rfl
  · have refused := State.storePermit_short (s := s.taken rest) (record := record) (kind := .inserted) (cells ▸ short)
    rw [cells] at refused
    exact congrArg Host.Outcome.next (executeNamed_of_atHead head (ran.trans refused))

/-- Settles O26: the old cells are freed first, and the record keeps its state, its last entry and, with KEEP, its lock. -/
theorem loadPermitReplaces : Obligations.LoadPermitReplaces := by
  intro tag c n company code level grants rest s ranges head
  constructor
  · intro old held noStaff free
    have permit : (s.taken rest).permitOf c = some old := held
    have own : old.credential = c := (State.permitOf_some held).2
    have terms := permitTerms_bytesOf (known := fun c => ((s.taken rest).permitOf c).isSome) ranges fun _ => by rw [permit]; rfl
    have staff : ((s.taken rest).staffOf c).isSome = false := by rw [show (s.taken rest).staffOf c = _ from noStaff]; rfl
    let record : Permit := PermitTerms.replacing ⟨c, n, company, lockSettingOf code level, grants⟩ old
    have ran : loadPermitRule { tag := tag, name := 1, body := loadPermitBytes c n company code level grants } (s.taken rest)
        = (s.taken rest).storePermit .replaced record := by
      simp only [loadPermitRule, terms, staff, Bool.false_eq_true, if_false, permit]
      rfl
    have cells : freeCells (s.taken rest).retired (removePermit record.credential (s.taken rest).permits) = free := by
      show freeCells s.retired (removePermit old.credential s.permits) = _
      rw [own]
      rfl
    refine ⟨fun enough => ⟨(s.taken rest).storing record, _, congrArg Host.Outcome.next (executeNamed_of_atHead head
      (ran.trans (State.storePermit_stored (cells ▸ enough)))), rfl, rfl, ?_, fun d other => ?_⟩, fun short => ?_⟩
    · rw [State.storing_permitOf, if_pos (show c = record.credential from own.symm), cells]
      exact congrArg (fun lock => some { record with
        lock := lock, headerCell := free.headD 0, grantCells := (free.drop 1).take grants.length })
        (lockSettingOf_replacing code level old.lock)
    · rw [State.storing_permitOf, if_neg (show d ≠ record.credential from own ▸ other)]
      rfl
    · have refused := State.storePermit_short (s := s.taken rest) (record := record) (kind := .replaced) (cells ▸ short)
      rw [cells] at refused
      exact congrArg Host.Outcome.next (executeNamed_of_atHead head (ran.trans refused))
  · intro u absent plain held
    have terms := permitTerms_bytesOf (known := fun c => ((s.taken rest).permitOf c).isSome) ranges fun keep => by omega
    have staff : ((s.taken rest).staffOf c).isSome = true := by rw [show (s.taken rest).staffOf c = _ from held]; rfl
    exact congrArg Host.Outcome.next (executeNamed_of_atHead head (by simp only [loadPermitRule, terms, staff, if_true]))

end Sys2Proof.Machine

/-! PROOF. The requests on programs, doors, stations and the part, and CARRY and ASSIGN ADDRESS (O38 to O43, O45). -/

namespace Sys2Proof.Machine

set_option Elab.async false

/-- Settles O38: the request's program in the place of its number. -/
theorem setProgramReplaces : Obligations.SetProgramReplaces := by
  intro tag n steps rest s short ranges head
  exact congrArg Host.Outcome.next
    (executeNamed_of_atHead head (by simp only [setProgramRule, programFields_bytesOf n short ranges]; rfl))

/-! ## A door whose program is ended (07 R131) -/

section
variable {d : Door} (now : Nat) (room : RoomSettings)

theorem Door.endActions_shutDown (shut : d.state ≠ .opened) : d.endActions now room = d.shutDown := by
  cases state : d.state <;> simp_all [Door.endActions, Door.act, Door.shutDown, Bool.beq_eq_decide_eq]

/-- Also where no program runs, a lawful door that is not OPEN is as the end actions leave it. -/
theorem Door.endProgram_shutDown (sound : d.sound) (shut : d.state ≠ .opened) : d.endProgram now room = d.shutDown := by
  cases program : d.program with
  | some p => rw [Door.endProgram, program, Option.isSome_some, if_pos rfl, Door.endActions_shutDown now room shut]
  | none =>
    have image := sound.idleLocked program
    have wait : d.waitTimer = none := by simpa [program] using sound.waits
    have state : d.state ≠ .released := fun released => by simpa [image, Door.atReset] using sound.releasedUnlocked released
    have same : d.shutDown = d := by
      rw [Door.shutDown, if_neg state]
      obtain ⟨_, _, _, _, _, _⟩ := d
      simp only at program image wait
      subst program image wait
      rfl
    rw [same, Door.endProgram, program]
    rfl

end

theorem State.setDoor_self (s : State) (r : RoomId) : s.setDoor r (s.door r) = s := by
  rw [State.setDoor, State.door, put_look]
  rfl

/-- Settles O39: CANCEL RELEASE and RESUME ROOM on each door they act on, and what they refuse. -/
theorem cancelAndResume : Obligations.CancelAndResume := by
  intro tag r rest s sound
  have field := roomField_bytesOf r
  refine ⟨fun head on => ⟨fun p runs shut => ?_, fun idle => ?_⟩, fun head on => ⟨fun hold driver => ?_, fun other => ?_⟩,
    fun off => ⟨fun head => ?_, fun head => ?_⟩⟩
  · have enabled : ((s.taken rest).roomSettings r).enabled = true := on
    have program : ((s.taken rest).door r).program = some p := runs
    have ended : ((s.taken rest).door r).endProgram (s.taken rest).now ((s.taken rest).roomSettings r) = (s.door r).shutDown :=
      Door.endProgram_shutDown _ _ sound shut
    exact congrArg Host.Outcome.next (executeNamed_of_atHead head
      (by simp only [cancelReleaseRule, field, enabled, State.cancelProgram, ended, program]; rfl))
  · have enabled : ((s.taken rest).roomSettings r).enabled = true := on
    have program : ((s.taken rest).door r).program = none := idle
    have ended : (s.taken rest).cancelProgram r = s.taken rest := by
      rw [State.cancelProgram, Door.endProgram, program]
      exact State.setDoor_self _ r
    exact congrArg Host.Outcome.next (executeNamed_of_atHead head
      (by simp only [cancelReleaseRule, field, enabled, ended, program]; rfl))
  · have enabled : ((s.taken rest).roomSettings r).enabled = true := on
    have state : ((s.taken rest).door r).state = .faultHold := hold
    have online : (s.taken rest).driverIsOffline r = false := driver
    have ended : ((s.taken rest).door r).endProgram (s.taken rest).now ((s.taken rest).roomSettings r) = (s.door r).shutDown :=
      Door.endProgram_shutDown _ _ sound (by rw [state]; simp)
    have may : ¬ (((s.taken rest).door r).state ≠ .faultHold ∨ (s.taken rest).driverIsOffline r = true) := by simp [state, online]
    exact congrArg Host.Outcome.next (executeNamed_of_atHead head
      (by simp only [resumeRoomRule, field, enabled, if_neg may, State.secureAgain, ended]; rfl))
  · have enabled : ((s.taken rest).roomSettings r).enabled = true := on
    have mayNot : ((s.taken rest).door r).state ≠ .faultHold ∨ (s.taken rest).driverIsOffline r = true := .inl other
    exact congrArg Host.Outcome.next (executeNamed_of_atHead head
      (by simp only [resumeRoomRule, field, enabled, if_pos mayNot]; rfl))
  · have disabled : ((s.taken rest).roomSettings r).enabled = false := off
    exact congrArg Host.Outcome.next (executeNamed_of_atHead head (by simp only [cancelReleaseRule, field, disabled]; rfl))
  · have disabled : ((s.taken rest).roomSettings r).enabled = false := off
    exact congrArg Host.Outcome.next (executeNamed_of_atHead head (by simp only [resumeRoomRule, field, disabled]; rfl))

/-! ## REMOTE RELEASE (07 R132, R140) -/

/-- A program UNLOCK, WAIT n, … on a SECURE door: it waits at its second step, whose count the dwell offset adjusts. -/
theorem Door.start_unlockWait {d : Door} (now : Nat) (room : RoomSettings) (kind : Direction) (number : ProgramId) (n : Nat)
    (others : List Step) (secure : d.state = .secure) :
    d.start now room kind number (.unlock :: .wait n :: others) =
      { d with
        state := .released
        image := { d.image with unlocked := true }
        program := some { kind := kind, number := number, steps := .unlock :: .wait n :: others, current := 2 }
        waitTimer := some (countdownFrom now ((clamp ((n : Int) + room.dwellOffset) 1 127).toNat * 250)) } := by
  have adjusted : adjustedWait (.unlock :: .wait n :: others) = some 2 := by
    simp [adjustedWait, List.findIdx?_cons, Step.isWait]
  simp [Door.start, Door.takeSteps, adjusted, Door.act, secure, waitUnits, countdownFrom, Config.waitUnitMillis]

/-- Settles O40: the refusal, the empty program, and the one that starts. -/
theorem remoteReleaseRunsTheProgram : Obligations.RemoteReleaseRunsTheProgram := by
  intro tag r kind rest s on head number refused
  have fields := releaseFields_bytesOf r kind
  have enabled : ((s.taken rest).roomSettings r).enabled = true := on
  have selected : (s.taken rest).selectedProgram r kind = number := by cases kind <;> rfl
  have barred : (kind = .entry ∧ (s.taken rest).entryBarred r = true) ↔ refused := by
    simp only [refused, State.entryBarred, Bool.or_eq_true, beq_iff_eq, or_assoc]
    rfl
  refine ⟨fun yes => ?_, fun no empty => ?_, fun n others no secure idle program => ?_⟩
  · exact congrArg Host.Outcome.next (executeNamed_of_atHead head
      (by simp only [remoteReleaseRule, fields, enabled, if_pos (barred.mpr yes)]; rfl))
  · have none : (s.taken rest).program ((s.taken rest).selectedProgram r kind) = [] := selected ▸ empty
    have released : (s.taken rest).release r kind = s.taken rest := by rw [State.release]; simp only [none]
    have result : (s.taken rest).releaseResult r kind = .empty := by rw [State.releaseResult, none]; rfl
    exact congrArg Host.Outcome.next (executeNamed_of_atHead head
      (by simp only [remoteReleaseRule, fields, enabled, if_neg (mt barred.mp no), released, result, selected]; rfl))
  · have steps : (s.taken rest).program number = .unlock :: .wait n :: others := program
    have door : ((s.taken rest).door r).program = none := idle
    have result : (s.taken rest).releaseResult r kind = .started := by
      rw [State.releaseResult, selected, steps, door]
      rfl
    have started := Door.start_unlockWait (d := (s.taken rest).door r) (s.taken rest).now ((s.taken rest).roomSettings r) kind number
      n others secure
    exact congrArg Host.Outcome.next (executeNamed_of_atHead head
      (by
        simp only [remoteReleaseRule, fields, enabled, if_neg (mt barred.mp no), result, State.release, selected, steps, started]
        rfl))

/-! ## CARRY and ASSIGN ADDRESS (09 R155, R166) -/

/-- Settles O43: the rule's three ends. -/
theorem carryQueuesTheItem : Obligations.CarryQueuesTheItem := by
  intro tag a payload rest s some few head forStation
  have fields := carryFields_bytesOf a some few
  have count : (s.taken rest).carryItemsFor a = forStation := List.countP_eq_length_filter
  refine ⟨fun off => ?_, fun on full => ?_, fun on place => ?_⟩
  · have disabled : ((s.taken rest).stationSettings a).enabled = false := off
    exact congrArg Host.Outcome.next (executeNamed_of_atHead head (by simp only [carryRule, fields, disabled]; rfl))
  · have enabled : ((s.taken rest).stationSettings a).enabled = true := on
    have noPlace : Config.carryPlaces ≤ (s.taken rest).field.carryDown.length := full
    exact congrArg Host.Outcome.next (executeNamed_of_atHead head
      (by simp only [carryRule, fields, enabled, if_pos noPlace, count]; rfl))
  · have enabled : ((s.taken rest).stationSettings a).enabled = true := on
    have hasPlace : ¬ Config.carryPlaces ≤ (s.taken rest).field.carryDown.length := Nat.not_le.mpr place
    let item : CarryItem := { station := a, tag := tag, payload := payload, riding := false }
    have length : (s.field.carryDown ++ [item]).length = s.field.carryDown.length + 1 := List.length_append
    have more : (s.field.carryDown ++ [item]).countP (fun i => i.station == a) = forStation + 1 := by
      rw [List.countP_append, List.countP_singleton, if_pos (by simp [item]), List.countP_eq_length_filter]
    rw [← length, ← more]
    exact congrArg Host.Outcome.next (executeNamed_of_atHead head
      (by simp only [carryRule, fields, enabled, if_neg hasPlace]; rfl))

/-- Settles O45: the range first, then the address held. -/
theorem assignAddressTakesTheAddress : Obligations.AssignAddressTakesTheAddress := by
  intro tag serial address rest s hs ha head
  have fields := assignFields_bytesOf hs ha
  have range : within 1 address 250 = true ↔ assignedAddress address := by simp [within, assignedAddress]
  refine ⟨fun bad => ?_, fun good held => ?_, fun good none => ?_⟩
  · rw [if_neg (mt range.mp bad)] at fields
    exact congrArg Host.Outcome.next (executeNamed_of_atHead head (by simp only [assignAddressRule, fields]; rfl))
  · rw [if_pos (range.mpr good)] at fields
    have assigned : (s.taken rest).trunk.address ≠ Config.unassigned := held
    exact congrArg Host.Outcome.next (executeNamed_of_atHead head
      (by simp only [assignAddressRule, fields, if_pos assigned]; rfl))
  · rw [if_pos (range.mpr good)] at fields
    have unassigned : ¬ (s.taken rest).trunk.address ≠ Config.unassigned := not_not.mpr none
    exact congrArg Host.Outcome.next (executeNamed_of_atHead head
      (by simp only [assignAddressRule, fields, if_neg unassigned]; rfl))

end Sys2Proof.Machine

/-! PROOF. The requests on stations, the part and the rooms' settings (O34, O35, O41, O42). -/

namespace Sys2Proof.Machine

set_option Elab.async false

/-! ## Items offered to the routine queue in their order (10 R174) -/

/-- Routine items offered one after the other. -/
def Reports.offerAll (q : Reports) (items : List RoutineItem) : Reports := items.foldl Reports.offerRoutine q

theorem Reports.offerVerdicts_eq (q : Reports) (verdicts : List Verdict) :
    q.offerVerdicts verdicts = q.offerAll (verdicts.map .verdict) := List.foldl_map.symm

/-- Where the queue has the places, all the items enter at its end. -/
theorem Reports.offerAll_of_places {q : Reports} {items : List RoutineItem} (places : q.routine.length + items.length ≤ 32) :
    q.offerAll items = { q with routine := q.routine ++ items } := by
  induction items generalizing q with
  | nil => simp [Reports.offerAll]
  | cons i items ih =>
    rw [List.length_cons] at places
    have place : q.routine.length < Config.routinePlaces := by
      simp only [Config.routinePlaces]
      omega
    have first : q.offerRoutine i = { q with routine := q.routine ++ [i] } := if_pos place
    have rest : ({ q with routine := q.routine ++ [i] } : Reports).routine.length + items.length ≤ 32 := by
      simp only [List.length_append, List.length_singleton]
      omega
    show (q.offerRoutine i).offerAll items = _
    rw [first, ih rest]
    simp

@[simp] theorem Reports.offerAll_alarms (q : Reports) (items : List RoutineItem) : (q.offerAll items).alarms = q.alarms := by
  induction items generalizing q with
  | nil => rfl
  | cons i items ih => exact (ih _).trans (Reports.offerRoutine_alarms q i)

@[simp] theorem Reports.offerAll_answers (q : Reports) (items : List RoutineItem) : (q.offerAll items).answers = q.answers := by
  induction items generalizing q with
  | nil => rfl
  | cons i items ih => exact (ih _).trans (Reports.offerRoutine_answers q i)

/-! ## SET STATION (08 R143, R144) -/

/-- The CARRY_FAILED item of a carry item (08 R152). -/
def State.failedItem (s : State) (i : CarryItem) (cause : CarryCause) : RoutineItem :=
  .carryFailed s.clock.minute s.clock.second (fieldAddress i.station) i.tag i.payload.length cause

theorem State.carryFailed_foldl (s : State) (items : List CarryItem) (cause : CarryCause) :
    items.foldl (fun s i => s.carryFailed i cause) s
      = s.withReports (s.reports.offerAll (items.map fun i => s.failedItem i cause)) := by
  induction items generalizing s with
  | nil => rfl
  | cons i items ih =>
    rw [List.foldl_cons, ih]
    rfl

/-- The station's items out of the queue, each with its CARRY_FAILED. -/
theorem State.failStation_eq (s : State) (a : StationId) : s.failStation a = { s with
    field := { s.field with carryDown := s.field.carryDown.filter fun i => i.station != a }
    reports := s.reports.offerAll ((s.field.carryDown.filter fun i => i.station == a).map fun i =>
      s.failedItem i .stationDisabled) } := by
  rw [State.failStation, State.carryFailed_foldl]
  rfl

theorem State.speedDiffers_iff {s : State} {speed : Nat} (h : speed ≤ 3) :
    s.speedDiffers (if speed = 3 then none else some (speedOfCode speed)) = true ↔
      speed ≠ 3 ∧ speed ≠ s.settings.part.lineSpeed.code := by
  unfold State.speedDiffers
  cases s.settings.part.lineSpeed <;> interval_cases speed <;> decide

theorem setStationRule_written {q : Request} {u t : State} {a : StationId} {new : StationSettings} {choice : Option LineSpeed}
    (fields : stationFields q.body = .ok (a, new, choice)) (may : ¬ (u.speedDiffers choice && decide (0 < u.partiesPending)) = true)
    (leaves : (if new.enabled then (u.writeStation a new choice).enableStation else (u.writeStation a new choice).disableStation a)
      = t) : setStationRule q u = answered t .done (.stationSet (t.station a).online (t.station a).missed) := by
  subst leaves
  simp only [setStationRule, fields]
  exact if_neg may

/-- Settles O41: the refusal, and the settings written with what a disabled station loses. -/
theorem setStationWrites : Obligations.SetStationWrites := by
  intro tag a new speed rest s h head differs parties
  have fields := stationFields_bytesOf a new h
  let u : State := s.taken rest
  let choice : Option LineSpeed := if speed = 3 then none else some (speedOfCode speed)
  have speeds : u.speedDiffers choice = true ↔ differs := State.speedDiffers_iff h
  refine ⟨fun other some => ?_, fun same => ?_⟩
  · have refused : (u.speedDiffers choice && decide (0 < u.partiesPending)) = true := by
      rw [speeds.mpr other, Bool.true_and]
      exact decide_eq_true some
    exact congrArg Host.Outcome.next (executeNamed_of_atHead head (by simp only [setStationRule, fields]; exact if_pos refused))
  · have may : ¬ (u.speedDiffers choice && decide (0 < u.partiesPending)) = true := by
      rw [Bool.and_eq_true, speeds, decide_eq_true_iff]
      rintro ⟨other, some⟩
      rcases same with same | none
      · exact same other
      · exact absurd (show 0 < parties from some) (by omega)
    have written : (u.writeStation a new choice).settings = { s.settings with
        stations := put s.settings.stations a new
        part := { s.settings.part with
          lineSpeed := if speed = 3 then s.settings.part.lineSpeed else speedOfCode speed } } := by
      by_cases keep : speed = 3 <;> simp only [choice, keep, if_true, if_false] <;> rfl
    cases on : new.enabled with
    | true =>
      have chosen : ∃ x, (u.writeStation a new choice).enableStation = { u.writeStation a new choice with
          field := { s.field with chosen := x } } := by
        unfold State.enableStation
        split
        · exact ⟨_, rfl⟩
        · exact ⟨s.field.chosen, rfl⟩
      obtain ⟨x, enabled⟩ := chosen
      have ran := setStationRule_written (q := { tag := tag, name := 20, body := _ }) fields may ((if_pos on).trans enabled)
      exact ⟨_, congrArg Host.Outcome.next (executeNamed_of_atHead head ran), rfl, written, rfl, rfl,
        fun _ => ⟨rfl, rfl, rfl⟩, nofun⟩
    | false =>
      have disabled : ∃ v x, (u.writeStation a new choice).disableStation a = { u.writeStation a new choice with
            field := { s.field with visit := v, chosen := x, carryDown := s.field.carryDown.filter fun i => i.station != a }
            reports := s.reports.offerAll ((s.field.carryDown.filter fun i => i.station == a).map fun i =>
              s.failedItem i .stationDisabled) } ∧
          (∀ w, s.field.visit = some w → w.station = a → v = none) ∧
          (∀ w, s.field.visit = some w → w.station ≠ a → v = some w) := by
        rw [State.disableStation, State.failStation_eq]
        cases visit : s.field.visit with
        | none =>
          have none : (u.writeStation a new choice).field.visit = .none := visit
          simp only [none]
          refine ⟨.none, ?_⟩
          split
          · exact ⟨_, rfl, nofun, nofun⟩
          · exact ⟨s.field.chosen, by rw [← visit]; rfl, nofun, nofun⟩
        | some w =>
          have some : (u.writeStation a new choice).field.visit = .some w := visit
          simp only [some]
          by_cases here : w.station = a
          · exact ⟨_, _, if_pos here, fun _ _ _ => rfl, fun x eq other => absurd (Option.some.inj eq ▸ here) other⟩
          · refine ⟨.some w, s.field.chosen, (if_neg here).trans (by rw [← visit]; rfl), fun x eq same => ?_, fun x eq _ => eq⟩
            exact absurd (Option.some.inj eq ▸ same) here
      obtain ⟨v, x, eq, ended, kept⟩ := disabled
      have off : ¬ new.enabled = true := by simp [on]
      have ran := setStationRule_written (q := { tag := tag, name := 20, body := _ }) fields may ((if_neg off).trans eq)
      refine ⟨_, congrArg Host.Outcome.next (executeNamed_of_atHead head ran), rfl, written, Reports.offerAll_alarms _ _,
        Reports.offerAll_answers _ _, nofun, fun _ => ⟨rfl, ended, kept, fun places => ?_⟩⟩
      have entered := Reports.offerAll_of_places (q := s.reports)
        (items := (s.field.carryDown.filter fun i => i.station == a).map fun i => s.failedItem i .stationDisabled)
        (by rw [List.length_map]; exact places)
      refine (congrArg Reports.routine entered).trans (congrArg (s.reports.routine ++ ·) (List.map_congr_left fun i mem => ?_))
      have station : i.station = a := by simpa using (List.mem_filter.mp mem).2
      rw [State.failedItem, station]

/-! ## SET PART (09 R165, 03 R42) -/

@[simp] theorem look_ofFn {α : Type} {n : Nat} (f : Fin n → α) (i : Fin n) : look (Vector.ofFn f) i = f i := by
  simp [look, Vector.get_eq_getElem]

/-- Settles O42: the refusal, and the settings replaced with every zone index recomputed where they change it. -/
theorem setPartReplaces : Obligations.SetPartReplaces := by
  intro tag new rest s good head old parties
  have fields := partFields_encodePart good
  let u : State := s.taken rest
  refine ⟨fun other some => ?_, fun same => ?_⟩
  · have refused : u.settings.part.lineSpeed ≠ new.lineSpeed ∧ 0 < u.partiesPending := ⟨other, some⟩
    exact congrArg Host.Outcome.next (executeNamed_of_atHead head (by simp only [setPartRule, fields]; exact if_pos refused))
  · have may : ¬ (u.settings.part.lineSpeed ≠ new.lineSpeed ∧ 0 < u.partiesPending) := by
      rintro ⟨other, some⟩
      rcases same with same | none
      · exact other same
      · exact absurd (show 0 < parties from some) (by omega)
    have ran : setPartRule { tag := tag, name := 21, body := encodePart new } u
        = answered (u.applyPart new) .done (.partSet (u.settings.part.changes new)
          (if u.settings.part.zonesDiffer new then some (u.applyPart new).zoneIndices else none)) := by
      simp only [setPartRule, fields]
      exact if_neg may
    refine ⟨fun mode shift => ?_, fun differ => ?_⟩
    · have zones : u.settings.part.zonesDiffer new = false := by
        simp only [PartSettings.zonesDiffer, Bool.or_eq_false_iff, bne_eq_false_iff_eq]
        exact ⟨mode, shift⟩
      have applied : u.applyPart new = u.withSettings { s.settings with part := new } := by
        rw [State.applyPart]
        dsimp only
        rw [zones]
        rfl
      rw [zones, applied] at ran
      exact ⟨_, congrArg Host.Outcome.next (executeNamed_of_atHead head ran)⟩
    · have zones : u.settings.part.zonesDiffer new = true := by
        simp only [PartSettings.zonesDiffer, Bool.or_eq_true, bne_iff_ne]
        exact differ
      have applied : u.applyPart new = (u.withSettings { s.settings with part := new }).recomputeZones := by
        rw [State.applyPart]
        dsimp only
        rw [zones]
        rfl
      rw [zones, applied] at ran
      exact ⟨_, _, congrArg Host.Outcome.next (executeNamed_of_atHead head ran), rfl, fun r => look_ofFn _ r⟩

end Sys2Proof.Machine

/-! PROOF. SET ROOM and SET ROOM MODE, and the lone condition they evaluate (O34 to O36). -/

namespace Sys2Proof.Machine

set_option Elab.async false

/-! ## The lone condition (06 R110) -/

theorem State.isLone_eq (s : State) (r : RoomId) : s.isLone r = loneIn (s.roomSettings r).checkInInterval r s.roll := by
  have staff : (s.staffCount r == 0) = !(s.roll.any fun p => p.room == r && p.contractor.isNone) := by
    rw [Bool.eq_iff_iff, Bool.not_eq_true', beq_iff_eq, State.staffCount, List.countP_eq_zero, ← Bool.not_eq_true,
      List.any_eq_true, not_exists]
    simp only [not_and]
  rw [State.isLone, loneIn, staff, State.contractorCount, List.countP_eq_length_filter]

theorem ContractorPart.watched_eq (deadline : Nat) (k : ContractorPart) : k.watched deadline = k.afterLone true deadline := by
  cases k with | mk _ _ _ _ _ checkIn _ _ _ _ _ _ => cases checkIn <;> rfl

theorem ContractorPart.unwatched_eq (deadline : Nat) (k : ContractorPart) : k.unwatched = k.afterLone false deadline := by
  cases k with | mk _ _ _ _ _ checkIn _ _ _ _ _ _ => cases checkIn <;> rfl

/-- The lone condition evaluated is the table of 06 R110 over the room's records. -/
theorem State.evaluateLone_eq (s : State) (r : RoomId) :
    s.evaluateLone r = { s with roll := rollEvaluated (s.roomSettings r).checkInInterval s.clock.minute r s.roll } := by
  have change : (if s.isLone r then
        ContractorPart.watched (addMinutes s.clock.minute (s.roomSettings r).checkInInterval)
      else ContractorPart.unwatched)
      = ContractorPart.afterLone (loneIn (s.roomSettings r).checkInInterval r s.roll)
          (min (s.clock.minute + (s.roomSettings r).checkInInterval) 4294967295) := by
    funext k
    rw [State.isLone_eq]
    cases loneIn (s.roomSettings r).checkInInterval r s.roll
    · exact ContractorPart.unwatched_eq _ k
    · exact ContractorPart.watched_eq _ k
  rw [State.evaluateLone, change]
  rfl

/-- A room without records has nothing to evaluate. -/
theorem rollEvaluated_of_empty {interval minute : Nat} {r : RoomId} {roll : List Presence} (none : ∀ p ∈ roll, p.room ≠ r) :
    rollEvaluated interval minute r roll = roll := by
  rw [rollEvaluated, List.map_congr_left fun p mem => if_neg (none p mem), List.map_id']

/-! ## SET ROOM (03 R45 to R48) -/

theorem RoomSettings.identityDiffers_iff {old new : RoomSettings} : old.identityDiffers new = true ↔
    ¬ (old.enabled = new.enabled ∧ old.roomCode = new.roomCode ∧ old.entryReader = new.entryReader ∧
      old.exitReader = new.exitReader ∧ old.lockDriver = new.lockDriver) := by
  simp only [RoomSettings.identityDiffers, Bool.or_eq_true, bne_iff_ne, ne_eq]
  tauto

theorem State.roomOccupied_iff {s : State} {r : RoomId} :
    s.roomOccupied r = true ↔ (∃ p ∈ s.roll, p.room = r) ∨ s.slot r ≠ .empty := by
  simp [State.roomOccupied, State.roomCount, State.recordsOf, List.length_pos_iff, List.filter_eq_nil_iff]

/-- The same identity settings change nothing beyond the settings. -/
theorem State.takeIdentity_same (s : State) (r : RoomId) {old new : RoomSettings} (enabled : old.enabled = new.enabled)
    (driver : old.lockDriver = new.lockDriver) : s.takeIdentity r old new = s := by
  rw [State.takeIdentity, enabled]
  cases new.enabled <;> simp [driver]

/-- The address of another room's entry reader is held there and nowhere else. -/
theorem addressFault_taken {rooms : Vector RoomSettings 6} {r q : RoomId} {address : Nat} (other : q ≠ r)
    (enabled : (look rooms q).enabled = true) (held : (look rooms q).entryReader = address) (is : address ≠ 0)
    (alone : ∀ x, x ≠ r → x ≠ q → ∀ place, (look rooms x).placeOf address ≠ some place) :
    addressFault rooms r 1 true address [] = some { field := 1, holder := some (q, .entryReader) } := by
  have place : (look rooms q).placeOf address = some .entryReader := by
    simp [RoomSettings.placeOf, enabled, held, is]
  have elsewhere : holderElsewhere rooms r address = some (q, .entryReader) := by
    have only : ∀ x, (if x = r then none else ((look rooms x).placeOf address).map fun p => (x, p))
        = if x = q then some (q, Place.entryReader) else none := by
      intro x
      by_cases own : x = r
      · rw [if_pos own, if_neg (own ▸ Ne.symm other)]
      · rw [if_neg own]
        by_cases here : x = q
        · rw [if_pos here, here, place]
          rfl
        · rw [if_neg here, Option.eq_none_iff_forall_ne_some.mpr (alone x own here)]
          rfl
    have found : ∀ q : RoomId, allRooms.findSome? (fun x => if x = q then some (q, Place.entryReader) else none)
        = some (q, .entryReader) := by decide
    rw [holderElsewhere, funext only, found]
  rw [addressFault, if_neg is, elsewhere]

section
variable {tag : Nat} {r : RoomId} {new : RoomSettings} {u : State}

/-- A SET ROOM that passes its three stages is answered with the state they leave. -/
theorem setRoomRule_applied {t : State} {zone : Nat} (good : new.fields.firstBad = none)
    (free : ((u.roomSettings r).identityDiffers new && u.roomOccupied r) = false)
    (unique : uniquenessFault u.settings.rooms r new = none) (leaves : u.applyRoom r new = t)
    (zoned : (t.room r).zoneIndex = zone) :
    setRoomRule { tag := tag, name := 12, body := bytesOf 1 (roomNumber r) ++ encodeRoomSettings new } u
      = answered t .done (.roomSet zone new.enabled) := by
  subst leaves zoned
  simp only [setRoomRule, setRoomFields_bytesOf r good, free, unique]
  rfl

theorem setRoomRule_refused {f : AddressFault} (good : new.fields.firstBad = none)
    (free : ((u.roomSettings r).identityDiffers new && u.roomOccupied r) = false)
    (fault : uniquenessFault u.settings.rooms r new = some f) :
    setRoomRule { tag := tag, name := 12, body := bytesOf 1 (roomNumber r) ++ encodeRoomSettings new } u
      = answered u .badValue f.data := by
  simp only [setRoomRule, setRoomFields_bytesOf r good, free, fault]
  rfl

end

/-- Settles O34: operating settings by the stages they pass, and the two refusals. -/
theorem setRoomChecksAndStores : Obligations.SetRoomChecksAndStores := by
  intro tag r new rest s good head old sameIdentity holds
  let u : State := s.taken rest
  have differs : (u.roomSettings r).identityDiffers new = true ↔ ¬ sameIdentity := RoomSettings.identityDiffers_iff
  have occupied : u.roomOccupied r = true ↔ holds := State.roomOccupied_iff
  refine ⟨fun same unique => ?_, fun other holding => ?_, fun idle on q apart enabled held is alone => ?_⟩
  · have free : ((u.roomSettings r).identityDiffers new && u.roomOccupied r) = false := by
      rw [Bool.eq_false_iff.mpr (mt differs.mp (not_not.mpr same)), Bool.false_and]
    obtain ⟨enabled, -, -, -, driver⟩ := same
    have applied : u.applyRoom r new =
        { s.taken rest with
          settings := { s.settings with rooms := put s.settings.rooms r new }
          roll :=
            if old.checkInInterval ≠ new.checkInInterval ∧ (old.checkInInterval = 0 ∨ new.checkInInterval = 0) then
              rollEvaluated new.checkInInterval s.clock.minute r s.roll
            else s.roll
          rooms := put s.rooms r { s.room r with zoneIndex := zoneIndexOf s.settings.part new.roomCode } } := by
      have settings : (u.storeRoom r new).roomSettings r = new := look_put_self _ r new
      show ((u.storeRoom r new).takeIdentity r old new).takeInterval r old new = _
      rw [State.takeIdentity_same _ r enabled driver, State.takeInterval, State.evaluateLone_eq, settings]
      let y (roll : List Presence) : State :=
        { s.taken rest with
          settings := { s.settings with rooms := put s.settings.rooms r new }
          roll := roll
          rooms := put s.rooms r { s.room r with zoneIndex := zoneIndexOf s.settings.part new.roomCode } }
      by_cases change : old.checkInInterval ≠ new.checkInInterval ∧ (old.checkInInterval = 0 ∨ new.checkInInterval = 0)
      · rw [if_pos change]
        exact (congrArg y (if_pos change)).symm
      · rw [if_neg change]
        exact (congrArg y (if_neg change)).symm
    exact congrArg Host.Outcome.next (executeNamed_of_atHead head
      (setRoomRule_applied good free unique applied (congrArg RoomState.zoneIndex (look_put_self _ r _))))
  · have refused : ((u.roomSettings r).identityDiffers new && u.roomOccupied r) = true := by
      rw [differs.mpr other, occupied.mpr holding, Bool.and_self]
    exact congrArg Host.Outcome.next (executeNamed_of_atHead head
      (by simp only [setRoomRule, setRoomFields_bytesOf r good]; exact if_pos refused))
  · have free : ((u.roomSettings r).identityDiffers new && u.roomOccupied r) = false := by
      rw [Bool.eq_false_iff.mpr (mt occupied.mp idle), Bool.and_false]
    have fault : uniquenessFault u.settings.rooms r new = some { field := 1, holder := some (q, .entryReader) } := by
      have taken := addressFault_taken (rooms := s.settings.rooms) apart enabled held is alone
      have inForce : u.settings.rooms = s.settings.rooms := rfl
      simp only [uniquenessFault, on, inForce, taken]
      rfl
    exact congrArg Host.Outcome.next (executeNamed_of_atHead head
      (setRoomRule_refused good free fault))

/-! ## A room enabled, disabled or given another lock driver (03 R48, 07 R139) -/

theorem State.driverIsOffline_eq (s : State) (r : RoomId) :
    s.driverIsOffline r = s.driverIsOfflineAt (s.roomSettings r).lockDriver := by
  generalize driver : (s.roomSettings r).lockDriver = address
  rw [State.driverIsOffline, State.driverIsOfflineAt, driver]
  cases station : stationOfAddress address with
  | none =>
    refine (Bool.eq_false_iff.mpr fun any => ?_).symm
    obtain ⟨a, -, offline⟩ := List.any_eq_true.mp any
    obtain ⟨at_, -⟩ := Bool.and_eq_true_iff.mp offline
    rw [← beq_iff_eq.mp at_, stationOfAddress_fieldAddress] at station
    cases station
  | some a =>
    have at_ : fieldAddress a = address := by
      unfold stationOfAddress at station
      split at station
      · next range =>
        obtain rfl := Option.some.inj station
        exact Nat.sub_add_cancel range.1
      · cases station
    subst at_
    have only (b : StationId) : (fieldAddress b == fieldAddress a) = (b == a) := by
      rw [Bool.eq_iff_iff, beq_iff_eq, beq_iff_eq]
      exact ⟨fun same => Fin.ext (Nat.succ.inj same), congrArg fieldAddress⟩
    simp only [only]
    rw [Bool.eq_iff_iff, List.any_eq_true]
    refine ⟨fun offline => ⟨a, mem_allStations a, by simpa using offline⟩, ?_⟩
    rintro ⟨b, -, is⟩
    obtain ⟨same, offline⟩ := Bool.and_eq_true_iff.mp is
    rw [← beq_iff_eq.mp same]
    exact offline

section
variable {s : State} {r : RoomId}

/-- A lawful door taken to a fresh start, with DOOR_FAULT where its driver is OFFLINE. -/
theorem State.freshStart_eq (sound : (s.door r).sound) : s.freshStart r =
    let offline := s.driverIsOfflineAt (s.roomSettings r).lockDriver
    { s with
      doors := put s.doors r (freshDoor offline)
      reports :=
        if offline = true then
          s.reports.offerAlarm (s.faultAlarm r (s.roomSettings r).lockDriver .offline (s.door r).state)
        else s.reports } := by
  have image := Door.endProgram_image s.now (s.roomSettings r) sound
  have program := Door.endProgram_program (d := s.door r) s.now (s.roomSettings r)
  have door (state : DoorState) (cause : Option FaultCause) :
      ({ (s.door r).endProgram s.now (s.roomSettings r) with
        waitTimer := none, heldTimer := none, state := state, cause := cause } : Door)
      = { state := state, image := Door.atReset.image, program := none, waitTimer := none, heldTimer := none, cause := cause } := by
    rw [← image, ← program]
  rw [State.freshStart]
  dsimp only
  rw [State.driverIsOffline_eq]
  cases s.driverIsOfflineAt (s.roomSettings r).lockDriver
  · exact congrArg (s.setDoor r) (door .secure none)
  · exact congrArg (fun d => (s.setDoor r d).raiseDoor r (.doorFault .offline (s.door r).state)) (door .fault (some .offline))

/-- A lawful door closed down. -/
theorem State.closeDown_eq (sound : (s.door r).sound) :
    s.closeDown r = { s with doors := put s.doors r (freshDoor false) } := by
  have image := Door.endProgram_image s.now (s.roomSettings r) sound
  have program := Door.endProgram_program (d := s.door r) s.now (s.roomSettings r)
  have door : ({ (s.door r).endProgram s.now (s.roomSettings r) with
        state := .secure, cause := none, waitTimer := none, heldTimer := none } : Door) = freshDoor false := by
    show ({ state := .secure, image := _, program := _, waitTimer := none, heldTimer := none, cause := none } : Door) = _
    rw [image, program]
    rfl
  exact congrArg (s.setDoor r) door

end

/-- Settles O35: each pair of old and new enabled choice, on a room that holds nothing. -/
theorem setRoomEnablesAndDisables : Obligations.SetRoomEnablesAndDisables := by
  intro tag r new rest s good unique head noRecords empty sound old zone offline stored fresh alarmed done
  let u : State := s.taken rest
  let x : State := u.storeRoom r new
  have free : ((u.roomSettings r).identityDiffers new && u.roomOccupied r) = false := by
    have idle : u.roomOccupied r = false := by
      rw [Bool.eq_false_iff, ne_eq, State.roomOccupied_iff]
      rintro (⟨p, mem, here⟩ | slot)
      · exact noRecords p mem here
      · exact slot empty
    rw [idle, Bool.and_false]
  have settings : x.roomSettings r = new := look_put_self _ r new
  have interval (t : State) (roll : t.roll = s.roll) : t.takeInterval r old new = t := by
    rw [State.takeInterval, State.evaluateLone_eq, roll, rollEvaluated_of_empty noRecords, ← roll]
    exact ite_self _
  have ends {t : State} (taken : x.takeIdentity r old new = t) (roll : t.roll = s.roll) (zoned : (t.room r).zoneIndex = zone) :
      done t := by
    have applied : u.applyRoom r new = t := by
      show (x.takeIdentity r old new).takeInterval r old new = t
      rw [taken, interval t roll]
    exact congrArg Host.Outcome.next (executeNamed_of_atHead head (setRoomRule_applied good free unique applied zoned))
  have zoned (v : Vector RoomState 6) (y : RoomState) : (look (put v r y) r).zoneIndex = y.zoneIndex := by rw [look_put_self]
  have room : x.room r = { s.room r with zoneIndex := zone } := look_put_self _ r _
  refine ⟨fun off on => ?_, fun on off => ?_, fun was is => ⟨fun driver => ?_, fun driver => ?_⟩, fun off still => ?_⟩
  · let y : State := { stored with
      rooms := put s.rooms r { zoneIndex := zone, mode := (s.room r).mode, rollState := .uncertain, entryOverlay := none, exitOverlay := none } }
    have opened : x.setRoom r { x.room r with rollState := .uncertain, entryOverlay := none, exitOverlay := none } = y := by
      rw [room]
      exact congrArg stored.withRooms (put_put _ r _ _)
    have taken : x.takeIdentity r old new = y.freshStart r := by
      rw [← opened]
      simp [State.takeIdentity, on, off]
    have started := State.freshStart_eq (s := y) (r := r) sound
    rw [show y.roomSettings r = new from settings] at started
    exact ends (taken.trans started) rfl (zoned _ _)
  · let y : State := { stored with
      rooms := put s.rooms r { zoneIndex := zone, mode := .normal, rollState := (s.room r).rollState, entryOverlay := none, exitOverlay := none } }
    have closed : x.setRoom r { x.room r with mode := .normal, entryOverlay := none, exitOverlay := none } = y := by
      rw [room]
      exact congrArg stored.withRooms (put_put _ r _ _)
    have taken : x.takeIdentity r old new = y.closeDown r := by
      rw [← closed]
      simp [State.takeIdentity, on, off]
    exact ends (taken.trans (State.closeDown_eq (s := y) (r := r) sound)) rfl (zoned _ _)
  · have taken : x.takeIdentity r old new = x.freshStart r := by simp [State.takeIdentity, was, is, driver]
    have started := State.freshStart_eq (s := x) (r := r) sound
    rw [settings] at started
    exact ends (taken.trans started) rfl (zoned _ _)
  · exact ends (State.takeIdentity_same x r (was.trans is.symm) driver) rfl (zoned _ _)
  · have taken : x.takeIdentity r old new = x := by simp [State.takeIdentity, off, still]
    exact ends taken rfl (zoned _ _)

end Sys2Proof.Machine

/-! PROOF. SET ROOM MODE and what it tells the other blocks (O36). -/

namespace Sys2Proof.Machine

set_option Elab.async false

/-! ## The slot, the door and the overlay on a change to LOCKED (03 R50, 07 R133) -/

/-- The VERDICT items of a party denied ROOM_LOCKED, in member order. -/
def State.lockItems (s : State) (r : RoomId) : List RoutineItem :=
  match s.slot r with
  | .party y => y.members.map fun m => .verdict (s.memberVerdict r m y.members.length .deny .roomLocked)
  | _ => []

theorem State.issueSilently_foldl (s : State) (verdictOf : State → Member → Verdict) (members : List Member)
    (same : ∀ x q m, verdictOf (x.withReports q) m = verdictOf x m) :
    members.foldl (fun x m => x.issueSilently (verdictOf x m)) s
      = s.withReports (s.reports.offerAll (members.map fun m => .verdict (verdictOf s m))) := by
  induction members generalizing s with
  | nil => rfl
  | cons m members ih =>
    have first : s.issueSilently (verdictOf s m) = s.withReports (s.reports.offerRoutine (.verdict (verdictOf s m))) := rfl
    rw [List.foldl_cons, ih, first]
    simp only [same]
    rfl

theorem State.lockSlot_eq (s : State) (r : RoomId) : s.lockSlot r =
    { s with slots := put s.slots r .empty, reports := s.reports.offerAll (s.lockItems r) } := by
  rw [State.lockSlot, State.lockItems]
  cases slot : s.slot r with
  | party y =>
    simp only
    rw [State.issueSilently_foldl s (fun x m => x.memberVerdict r m y.members.length .deny .roomLocked) y.members
      fun _ _ _ => rfl]
    rfl
  | lead l => rfl
  | empty =>
    have same : put s.slots r .empty = s.slots := slot ▸ put_look s.slots r
    simp only [same]
    rfl

/-- A door whose running ENTRY program has been ended. -/
def Door.entryEnded (now : Nat) (room : RoomSettings) (d : Door) : Door :=
  match d.program with
  | some p => match p.kind with
    | .entry => d.endProgram now room
    | .exit => d
  | none => d

theorem State.cancelEntry_eq (s : State) (r : RoomId) :
    s.cancelEntry r = s.setDoor r ((s.door r).entryEnded s.now (s.roomSettings r)) := by
  rw [State.cancelEntry, Door.entryEnded]
  cases program : (s.door r).program with
  | none => exact (State.setDoor_self s r).symm
  | some p =>
    cases kind : p.kind with
    | entry =>
      simp only [kind]
      rfl
    | exit =>
      simp only [kind]
      exact (State.setDoor_self s r).symm

/-- A change to LOCKED, item by item. -/
theorem State.changeMode_locked (s : State) (r : RoomId) : s.changeMode r .locked =
    { s with
      rooms := put s.rooms r { s.room r with mode := .locked, entryOverlay := none }
      slots := put s.slots r .empty
      doors := put s.doors r ((s.door r).entryEnded s.now (s.roomSettings r))
      reports := s.reports.offerAll (s.lockItems r) } := by
  let x : State := s.setRoom r { s.room r with mode := .locked }
  have room : x.room r = { s.room r with mode := .locked } := look_put_self _ r _
  show ((x.lockSlot r).cancelEntry r).setRoom r { ((x.lockSlot r).cancelEntry r).room r with entryOverlay := none } = _
  rw [State.cancelEntry_eq, State.lockSlot_eq]
  refine (congrArg (fun y => State.setRoom _ r { y with entryOverlay := none }) room).trans ?_
  exact congrArg (fun rooms => ({ s with
    rooms := rooms
    slots := put s.slots r .empty
    doors := put s.doors r ((s.door r).entryEnded s.now (s.roomSettings r))
    reports := s.reports.offerAll (s.lockItems r) } : State)) (put_put s.rooms r _ _)

/-! ## The request (03 R49) -/

section
variable {tag code : Nat} {r : RoomId} {u : State}

theorem setRoomModeRule_changed (low : code ≤ 2) (on : (u.roomSettings r).enabled = true) (new : (u.room r).mode ≠ modeOfCode code) :
    setRoomModeRule { tag := tag, name := 13, body := bytesOf 1 (roomNumber r) ++ bytesOf 1 code } u
      = answered (u.changeMode r (modeOfCode code)) .done (.previousMode (u.room r).mode) := by
  simp only [setRoomModeRule, roomModeFields_bytesOf r low, on]
  exact if_neg new

theorem setRoomModeRule_same (low : code ≤ 2) (on : (u.roomSettings r).enabled = true) (same : (u.room r).mode = modeOfCode code) :
    setRoomModeRule { tag := tag, name := 13, body := bytesOf 1 (roomNumber r) ++ bytesOf 1 code } u
      = answered u .done (.previousMode (u.room r).mode) := by
  simp only [setRoomModeRule, roomModeFields_bytesOf r low, on]
  exact if_pos same

theorem setRoomModeRule_disabled (low : code ≤ 2) (off : (u.roomSettings r).enabled = false) :
    setRoomModeRule { tag := tag, name := 13, body := bytesOf 1 (roomNumber r) ++ bytesOf 1 code } u
      = answered u .notAllowed .nothing := by
  simp only [setRoomModeRule, roomModeFields_bytesOf r low, off]
  rfl

end

theorem modeOfCode_code (m : RoomMode) : modeOfCode m.code = m := by cases m <;> rfl

/-- A change from NORMAL to CONTRACTOR_HOLD: the mode, and the slot without its party. -/
theorem State.changeMode_held {s : State} {r : RoomId} (normal : (s.room r).mode = .normal) :
    ∃ (rooms : Vector RoomState 6) (slots : Vector Slot 6) (reports : Reports),
      s.changeMode r .contractorHold = { s with rooms := rooms, slots := slots, reports := reports } ∧
      (look rooms r).mode = .contractorHold ∧ (∀ l, s.slot r = .lead l → look slots r = .lead l) ∧
      (∀ y, s.slot r = .party y → look slots r = .empty) ∧
      (∀ q, q ≠ r → look rooms q = s.room q ∧ look slots q = s.slot q) ∧ reports.answers = s.reports.answers := by
  let x : State := s.setRoom r { s.room r with mode := .contractorHold }
  have held : s.changeMode r .contractorHold = x.holdSlot r := if_pos normal
  have room : x.room r = { s.room r with mode := .contractorHold } := look_put_self _ r _
  have roomElsewhere (y : RoomState) (q : RoomId) (other : q ≠ r) : look (put s.rooms r y) q = s.room q :=
    look_put_other _ _ _ _ (Ne.symm other)
  cases slot : s.slot r with
  | party y =>
    have slotX : x.slot r = .party y := slot
    have broken : x.holdSlot r = { x with
        slots := put s.slots r .empty
        rooms := if y.members = [] then x.rooms else x.roomsShowing r .entry .denied
        reports := s.reports.offerVerdicts (y.members.map fun m => x.verdictOfMember r m y.members.length .deny .roomHold) } := by
      rw [State.holdSlot, slotX]
      simp only
      rw [State.breakSlot_of_party slotX, State.denyMembers_eq]
      rfl
    refine ⟨_, _, _, held.trans broken, ?_, nofun, fun _ _ => look_put_self _ r _, fun q other => ⟨?_, ?_⟩, ?_⟩
    · split
      · exact congrArg RoomState.mode room
      · exact (congrArg RoomState.mode (look_put_self _ r _)).trans (congrArg RoomState.mode room)
    · split
      · exact roomElsewhere _ q other
      · exact (look_put_other _ _ _ _ (Ne.symm other)).trans (roomElsewhere _ q other)
    · exact look_put_other _ _ _ _ (Ne.symm other)
    · rw [Reports.offerVerdicts_eq, Reports.offerAll_answers]
  | lead l =>
    have slotX : x.slot r = .lead l := slot
    have kept : x.holdSlot r = x := by
      rw [State.holdSlot, slotX]
    exact ⟨_, _, _, held.trans kept, congrArg RoomState.mode room, fun _ eq => slot.trans eq, nofun,
      fun q other => ⟨roomElsewhere _ q other, rfl⟩, rfl⟩
  | empty =>
    have slotX : x.slot r = .empty := slot
    have kept : x.holdSlot r = x := by
      rw [State.holdSlot, slotX]
    exact ⟨_, _, _, held.trans kept, congrArg RoomState.mode room, nofun, nofun,
      fun q other => ⟨roomElsewhere _ q other, rfl⟩, rfl⟩

/-- Settles O36: LOCKED and CONTRACTOR_HOLD by what each tells the slot, the door and the overlay, and the requests that change
nothing. -/
theorem setRoomModeTellsTheBlocks : Obligations.SetRoomModeTellsTheBlocks := by
  intro tag r rest s
  let u : State := s.taken rest
  refine ⟨fun on head open_ => ?_, fun on head normal => ?_, fun code low head => ⟨fun off => ?_, fun on same => ?_⟩⟩
  · have ran := setRoomModeRule_changed (tag := tag) (code := 2) (u := u) le_rfl on open_
    rw [show modeOfCode 2 = .locked from rfl, State.changeMode_locked] at ran
    have roomElsewhere (y : RoomState) (q : RoomId) (other : q ≠ r) : look (put s.rooms r y) q = s.room q :=
      look_put_other _ _ _ _ (Ne.symm other)
    have door : (look (put s.doors r ((s.door r).entryEnded s.now (s.roomSettings r))) r)
        = (s.door r).entryEnded s.now (s.roomSettings r) := look_put_self _ r _
    refine ⟨_, congrArg Host.Outcome.next (executeNamed_of_atHead head ran), rfl, look_put_self _ r _, look_put_self _ r _, ?_, ?_,
      fun q other => ⟨roomElsewhere _ q other, look_put_other _ _ _ _ (Ne.symm other), look_put_other _ _ _ _ (Ne.symm other)⟩,
      fun p program kind => ?_, fun p program kind => ?_, ?_, fun y slot places => ?_⟩
    · simp [State.entryImage, State.entryBase, State.plusAnswer, State.room]
    · simp [State.exitImage, State.plusAnswer, State.room, u, State.taken]
    · have ended : (s.door r).entryEnded s.now (s.roomSettings r) = (s.door r).endActions s.now (s.roomSettings r) := by
        rw [Door.entryEnded, program]
        simp only [kind]
        rw [Door.endProgram, program]
        rfl
      refine ⟨(congrArg Door.program door).trans (ended ▸ rfl), (congrArg (fun d => d.image.unlocked) door).trans ?_⟩
      rw [ended, Door.endActions_image]
    · refine door.trans ?_
      rw [Door.entryEnded, program]
      simp only [kind]
    · exact congrArg (· ++ _) (Reports.offerAll_answers s.reports _)
    · have items : u.lockItems r
          = y.members.map fun m => .verdict (u.memberVerdict r m y.members.length .deny .roomLocked) := by
        rw [State.lockItems, show u.slot r = .party y from slot]
      have entered := Reports.offerAll_of_places (q := s.reports) (items := u.lockItems r) (by
        rw [items, List.length_map]
        exact places)
      refine (congrArg Reports.routine entered).trans ?_
      rw [items]
      rfl
  · have ran := setRoomModeRule_changed (tag := tag) (code := 1) (u := u) (by decide) on
      (by rw [show (u.room r).mode = .normal from normal]; decide)
    obtain ⟨rooms, slots, reports, changed, mode, lead, party, elsewhere, -⟩ := State.changeMode_held (s := u) normal
    rw [show modeOfCode 1 = .contractorHold from rfl, changed] at ran
    exact ⟨_, congrArg Host.Outcome.next (executeNamed_of_atHead head ran), rfl, mode, lead, party, elsewhere⟩
  · exact congrArg Host.Outcome.next (executeNamed_of_atHead head (setRoomModeRule_disabled low off))
  · have is : (u.room r).mode = modeOfCode code := by rw [← same, modeOfCode_code]; rfl
    exact congrArg Host.Outcome.next (executeNamed_of_atHead head (setRoomModeRule_same low on is))

end Sys2Proof.Machine

/-! PROOF. A departure (06 R106 to R108): the records that leave, one after the other, leave behind what `State.departed` lists. -/

namespace Sys2Proof.Machine

set_option Elab.async false

/-! ## Places as a list of credentials, each as often as it has one -/

/-- The first credential with a place is the first in the list of places. -/
theorem head?_places (l : List Nat) (n : Nat → Nat) :
    (l.flatMap fun c => List.replicate (n c) c).head? = l.find? fun c => decide (0 < n c) := by
  induction l with
  | nil => rfl
  | cons c l ih =>
    cases places : n c with
    | zero => simp [places, ih]
    | succ k => simp [places, List.replicate_succ]

/-- Taking the first place takes one from the credential it is of. -/
theorem places_tail {l : List Nat} {n m : Nat → Nat} {e : Nat} {rest : List Nat} (once : l.Nodup)
    (places : (l.flatMap fun c => List.replicate (n c) c) = e :: rest) (fewer : ∀ c ∈ l, m c = if c = e then n c - 1 else n c) :
    (l.flatMap fun c => List.replicate (m c) c) = rest := by
  induction l with
  | nil => simp at places
  | cons c l ih =>
    obtain ⟨new, once⟩ := List.nodup_cons.mp once
    obtain ⟨first, fewer⟩ := List.forall_mem_cons.mp fewer
    rw [List.flatMap_cons] at places ⊢
    cases has : n c with
    | zero =>
      rw [has, List.replicate_zero, List.nil_append] at places
      have other : c ≠ e := by
        rintro rfl
        have mem : c ∈ l.flatMap fun d => List.replicate (n d) d := places ▸ List.mem_cons_self
        obtain ⟨d, inList, isD⟩ := List.mem_flatMap.mp mem
        exact new (List.eq_of_mem_replicate isD ▸ inList)
      rw [first, if_neg other, has, List.replicate_zero, List.nil_append]
      exact ih once places fewer
    | succ k =>
      rw [has, List.replicate_succ, List.cons_append, List.cons.injEq] at places
      obtain ⟨rfl, tail⟩ := places
      have others : (l.flatMap fun d => List.replicate (m d) d) = l.flatMap fun d => List.replicate (n d) d := by
        refine congrArg List.flatten (List.map_congr_left fun d mem => ?_)
        rw [fewer d mem, if_neg (show ¬ d = c from fun same => new (same ▸ mem))]
      rw [first, if_pos rfl, has, Nat.add_sub_cancel, others, tail]

/-! ## The staff of a room and their places (06 R107) -/

/-- The places a staff credential has free: its ratio less its linked count, where its roster record is active. -/
def State.placesOf (s : State) (c : Nat) : Nat :=
  match s.staffOf c with
  | some u => if u.active = true then u.ratio - s.linkedCount c else 0
  | none => 0

/-- The staff credentials on the roll of a room, in roll order. -/
def State.staffIn (s : State) (r : RoomId) : List Nat :=
  (s.roll.filter fun p => p.room == r && p.contractor.isNone).map Presence.credential

theorem State.escortPlaces_eq (s : State) (r : RoomId) :
    s.escortPlaces r = (s.staffIn r).flatMap fun c => List.replicate (s.placesOf c) c := by
  rw [State.staffIn, List.flatMap_map]
  rfl

theorem State.canEscort_eq (s : State) (c : Nat) : s.canEscort c = decide (0 < s.placesOf c) := by
  rw [State.canEscort, State.placesOf]
  cases s.staffOf c with
  | none => rfl
  | some u => cases active : u.active <;> simp [active]

/-- A relinked contractor takes the first place. -/
theorem State.escortFor_eq (s : State) (r : RoomId) : s.escortFor r = (s.escortPlaces r).head? := by
  rw [State.escortPlaces_eq, head?_places, State.staffIn, List.find?_map, List.find?_filter, State.escortFor]
  congr 2
  funext p
  rw [State.canEscort_eq, Bool.eq_iff_iff, Bool.and_eq_true, decide_eq_true_iff, decide_eq_true_iff, Function.comp_apply,
    decide_eq_true_iff]

/-! ## One record changed -/

theorem mapContractor_credential (p : Presence) (f : ContractorPart → ContractorPart) :
    (p.mapContractor f).credential = p.credential := rfl

section
variable {x : State} {c dep : Nat} {f : ContractorPart → ContractorPart}

theorem changeRecord_credentials (x : State) (c : Nat) (f : ContractorPart → ContractorPart) :
    (x.changeRecord c f).roll.map Presence.credential = x.roll.map Presence.credential := by
  show (x.roll.map _).map _ = _
  rw [List.map_map]
  refine List.map_congr_left fun p _ => ?_
  simp only [Function.comp]
  split <;> rfl

theorem changeRecord_staffIn (x : State) (c : Nat) (f : ContractorPart → ContractorPart) (r : RoomId) :
    (x.changeRecord c f).staffIn r = x.staffIn r := by
  have same (p : Presence) : (if p.credential = c then p.mapContractor f else p).room = p.room ∧
      (if p.credential = c then p.mapContractor f else p).contractor.isNone = p.contractor.isNone ∧
      (if p.credential = c then p.mapContractor f else p).credential = p.credential := by
    split
    · exact ⟨rfl, Option.isNone_map, rfl⟩
    · exact ⟨rfl, rfl, rfl⟩
  show ((x.roll.map _).filter _).map _ = _
  rw [List.filter_map, List.map_map, State.staffIn]
  have test : ((fun p : Presence => p.room == r && p.contractor.isNone) ∘
      fun p => if p.credential = c then p.mapContractor f else p) = fun p => p.room == r && p.contractor.isNone :=
    funext fun p => by simp only [Function.comp, (same p).1, (same p).2.1]
  rw [test]
  exact List.map_congr_left fun p _ => (same p).2.2

/-- In a roll of different credentials a record of a credential is the only one that a change of the credential changes. -/
theorem changeRecord_split {p : Presence} (once : (x.roll.map Presence.credential).Nodup) (mem : p ∈ x.roll) :
    ∃ l m, x.roll = l ++ p :: m ∧ (x.changeRecord p.credential f).roll = l ++ p.mapContractor f :: m := by
  obtain ⟨l, m, split⟩ := List.append_of_mem mem
  have apart : ∀ q, q ∈ l ∨ q ∈ m → q.credential ≠ p.credential := by
    rw [split, List.map_append, List.map_cons, List.nodup_append, List.nodup_cons] at once
    obtain ⟨-, ⟨after, -⟩, before⟩ := once
    rintro q (inL | inM) same
    · exact before _ (List.mem_map_of_mem inL) _ List.mem_cons_self same
    · exact after (same ▸ List.mem_map_of_mem inM)
  refine ⟨l, m, split, ?_⟩
  show x.roll.map _ = _
  rw [split, List.map_append, List.map_cons, if_pos rfl]
  have kept (k : List Presence) (others : ∀ q ∈ k, q.credential ≠ p.credential) :
      (k.map fun q => if q.credential = p.credential then q.mapContractor f else q) = k := by
    rw [List.map_congr_left fun q mem => if_neg (others q mem), List.map_id']
  rw [kept l fun q mem => apart q (.inl mem), kept m fun q mem => apart q (.inr mem)]

/-- A contractor who changes escort is counted at the new one. -/
theorem changeRecord_linkedCount {p : Presence} (once : (x.roll.map Presence.credential).Nodup) (mem : p ∈ x.roll)
    (linked : p.linkedTo dep = true) {t : Nat} (other : t ≠ dep) {escort : Option Nat}
    (sets : ∀ k, (f k).escort = escort) :
    (x.changeRecord p.credential f).linkedCount t = x.linkedCount t + if escort = some t then 1 else 0 := by
  obtain ⟨l, m, before, after⟩ := changeRecord_split (f := f) once mem
  obtain ⟨room, credential, minute, second, contractor⟩ := p
  cases contractor with
  | none => simp [Presence.linkedTo] at linked
  | some k =>
    have was : k.escort = some dep := by simpa [Presence.linkedTo] using linked
    rw [State.linkedCount, State.linkedCount, after, before, List.countP_append, List.countP_append, List.countP_cons,
      List.countP_cons]
    simp only [Presence.linkedTo, Presence.mapContractor, Option.map_some, sets, was]
    have not_ : (some dep == some t) = false := by simpa using Ne.symm other
    by_cases here : escort = some t <;> simp [here, not_]
    omega

end

/-! ## Relinking (06 R107) -/

/-- A record after its contractor has taken its turn among those to be relinked: the place of the same number, or none. -/
def relinked (places pending : List Nat) (p : Presence) : Presence :=
  if p.credential ∈ pending then
    { p with
      contractor := p.contractor.map fun k =>
        { k with
          escort := places[pending.idxOf p.credential]?
          unescorted := k.unescorted || places[pending.idxOf p.credential]?.isNone } }
  else p

theorem relinked_nil (places : List Nat) (p : Presence) : relinked places [] p = p := if_neg List.not_mem_nil

theorem relinked_other {c : Nat} {p : Presence} (other : p.credential ≠ c) (place : Nat) (places pending : List Nat) :
    relinked (place :: places) (c :: pending) p = relinked places pending p := by
  have index : (c :: pending).idxOf p.credential = pending.idxOf p.credential + 1 := List.idxOf_cons_ne _ (Ne.symm other)
  simp only [relinked, List.mem_cons, other, false_or, index, List.getElem?_cons_succ]

theorem relinked_other_nil {c : Nat} {p : Presence} (other : p.credential ≠ c) (pending : List Nat) :
    relinked [] (c :: pending) p = relinked [] pending p := by
  simp only [relinked, List.mem_cons, other, false_or, List.getElem?_nil]

section
variable {r : RoomId} {dep : Nat} {cause : DepartureCause}

/-- The contractors of a departed member of staff relinked one after the other: the places go to them in turn. -/
theorem relink_foldl (pending : List Nat) (x : State) (turns : pending.Nodup)
    (linked : ∀ c ∈ pending, ∃ p ∈ x.roll, p.credential = c ∧ p.linkedTo dep = true)
    (once : (x.roll.map Presence.credential).Nodup) (gone : ∀ p ∈ x.roll, p.credential ≠ dep) :
    pending.foldl (fun x c => x.relink r dep cause c) x =
      { x with
        roll := x.roll.map (relinked (x.escortPlaces r) pending)
        reports := (pending.drop (x.escortPlaces r).length).foldl
          (fun q c => q.offerAlarm (x.rollAlarm r c (.escortLeft dep cause))) x.reports } := by
  induction pending generalizing x with
  | nil =>
    have same : x.roll.map (relinked (x.escortPlaces r) []) = x.roll := by
      rw [funext (relinked_nil _), List.map_id']
    rw [same, List.drop_nil]
    rfl
  | cons c pending ih =>
    obtain ⟨notAgain, turns⟩ := List.nodup_cons.mp turns
    obtain ⟨⟨p, mem, isC, toDep⟩, linked⟩ := List.forall_mem_cons.mp linked
    have staffOther : ∀ t ∈ x.staffIn r, t ≠ dep := by
      intro t inRoom
      obtain ⟨q, isStaff, rfl⟩ := List.mem_map.mp inRoom
      exact gone q (List.mem_filter.mp isStaff).1
    have staffOnce : (x.staffIn r).Nodup := once.sublist (List.filter_sublist.map _)
    -- What the induction needs of the state after one turn.
    have next (f : ContractorPart → ContractorPart) :
        (∀ d ∈ pending, ∃ q ∈ (x.changeRecord c f).roll, q.credential = d ∧ q.linkedTo dep = true) ∧
        ((x.changeRecord c f).roll.map Presence.credential).Nodup ∧ ∀ q ∈ (x.changeRecord c f).roll, q.credential ≠ dep := by
      have creds := changeRecord_credentials x c f
      refine ⟨fun d wait => ?_, creds ▸ once, fun q mem same => ?_⟩
      · obtain ⟨q, mem, isD, toDep⟩ := linked d wait
        have other : q.credential ≠ c := fun same => notAgain (same ▸ isD ▸ wait)
        exact ⟨q, List.mem_map.mpr ⟨q, mem, if_neg other⟩, isD, toDep⟩
      · have mem : q.credential ∈ x.roll.map Presence.credential := creds ▸ List.mem_map_of_mem mem
        obtain ⟨q0, mem, is⟩ := List.mem_map.mp mem
        exact gone q0 mem (is.trans same)
    have placesOf (f : ContractorPart → ContractorPart) (escort : Option Nat) (sets : ∀ k, (f k).escort = escort) (t : Nat)
        (inRoom : t ∈ x.staffIn r) :
        (x.changeRecord c f).placesOf t = if escort = some t then x.placesOf t - 1 else x.placesOf t := by
      have count := changeRecord_linkedCount (f := f) once mem toDep (staffOther t inRoom) sets
      rw [isC] at count
      have staff : (x.changeRecord c f).staffOf t = x.staffOf t := rfl
      rw [State.placesOf, State.placesOf, staff, count]
      cases x.staffOf t with
      | none => simp
      | some u => cases active : u.active <;> by_cases here : escort = some t <;> simp [active, here, Nat.sub_add_eq]
    rw [List.foldl_cons, State.relink, State.escortFor_eq]
    cases places : x.escortPlaces r with
    | nil =>
      simp only [List.head?_nil]
      let f : ContractorPart → ContractorPart := fun k => { k with escort := none, unescorted := true }
      let y : State := (x.changeRecord c f).raise (some r) (some c) none (.escortLeft dep cause)
      have stillNone : y.escortPlaces r = [] := by
        have none : (x.changeRecord c f).escortPlaces r = x.escortPlaces r := by
          rw [State.escortPlaces_eq, State.escortPlaces_eq, changeRecord_staffIn]
          refine congrArg List.flatten (List.map_congr_left fun t mem => ?_)
          rw [placesOf f .none (fun _ => rfl) t mem, if_neg nofun]
        exact none.trans places
      obtain ⟨linked, once, gone⟩ := next f
      have after := ih y turns linked once gone
      rw [stillNone] at after
      refine after.trans ?_
      have rolls : y.roll.map (relinked [] pending) = x.roll.map (relinked [] (c :: pending)) := by
        show (x.roll.map _).map _ = _
        rw [List.map_map]
        refine List.map_congr_left fun q _ => ?_
        by_cases here : q.credential = c
        · have out : relinked [] pending (q.mapContractor f) = q.mapContractor f := if_neg (by
            rw [mapContractor_credential, here]
            exact notAgain)
          simp only [Function.comp, if_pos here, out]
          simp [relinked, here, Presence.mapContractor, f]
        · simp only [Function.comp, if_neg here, relinked_other_nil here]
      rw [rolls]
      rfl
    | cons place places_ =>
      simp only [List.head?_cons]
      let f : ContractorPart → ContractorPart := fun k => { k with escort := some place }
      let y : State := x.changeRecord c f
      have rest : y.escortPlaces r = places_ := by
        rw [State.escortPlaces_eq, changeRecord_staffIn]
        refine places_tail staffOnce ((State.escortPlaces_eq x r).symm.trans places) fun t mem => ?_
        rw [placesOf f (some place) (fun _ => rfl) t mem]
        simp only [Option.some.injEq, eq_comm]
      obtain ⟨linked, once, gone⟩ := next f
      have after := ih y turns linked once gone
      rw [rest] at after
      refine after.trans ?_
      have rolls : y.roll.map (relinked places_ pending) = x.roll.map (relinked (place :: places_) (c :: pending)) := by
        show (x.roll.map _).map _ = _
        rw [List.map_map]
        refine List.map_congr_left fun q _ => ?_
        by_cases here : q.credential = c
        · have out : relinked places_ pending (q.mapContractor f) = q.mapContractor f := if_neg (by
            rw [mapContractor_credential, here]
            exact notAgain)
          simp only [Function.comp, if_pos here, out]
          simp [relinked, here, Presence.mapContractor, f]
        · simp only [Function.comp, if_neg here, relinked_other here]
      rw [rolls]
      rfl

end

/-! ## One removed record handled (06 R106 to R108) -/

/-- What every step of a departure keeps: where each record is, and the two queues it does not touch. -/
structure Departing (x y : State) : Prop where
  places : y.roll.map (fun p => (p.room, p.credential)) = x.roll.map fun p => (p.room, p.credential)
  routine : y.reports.routine = x.reports.routine
  answers : y.reports.answers = x.reports.answers

namespace Departing

variable {x y z : State} {r : RoomId} {dep : Nat} {cause : DepartureCause}

theorem refl (x : State) : Departing x x := ⟨rfl, rfl, rfl⟩

theorem trans (h : Departing x y) (k : Departing y z) : Departing x z :=
  ⟨k.places.trans h.places, k.routine.trans h.routine, k.answers.trans h.answers⟩

theorem foldl {α : Type} {op : State → α → State} (one : ∀ x a, Departing x (op x a)) (l : List α) (x : State) :
    Departing x (l.foldl op x) := by
  induction l generalizing x with
  | nil => exact refl x
  | cons a l ih => exact (one x a).trans (ih _)

theorem mapRoll (x : State) {f : Presence → Presence} (same : ∀ p, (f p).room = p.room ∧ (f p).credential = p.credential) :
    Departing x (x.withRoll (x.roll.map f)) := by
  refine ⟨?_, rfl, rfl⟩
  show (x.roll.map f).map _ = _
  rw [List.map_map]
  exact List.map_congr_left fun p _ => Prod.ext (same p).1 (same p).2

theorem changeRecord (x : State) (c : Nat) (f : ContractorPart → ContractorPart) : Departing x (x.changeRecord c f) :=
  mapRoll x fun p => by split <;> exact ⟨rfl, rfl⟩

theorem raise (x : State) (room : Option RoomId) (c st : Option Nat) (d : AlarmDetail) : Departing x (x.raise room c st d) :=
  ⟨rfl, Reports.offerAlarm_routine _ _, Reports.offerAlarm_answers _ _⟩

theorem evaluateLone (x : State) (r : RoomId) : Departing x (x.evaluateLone r) := by
  rw [State.evaluateLone_eq]
  exact mapRoll x fun p => by split <;> exact ⟨rfl, rfl⟩

theorem relink (x : State) (c : Nat) : Departing x (x.relink r dep cause c) := by
  unfold State.relink
  split
  · exact changeRecord x c _
  · exact (changeRecord x c _).trans (raise _ _ _ _ _)

theorem endEnteredLead (x : State) : Departing x (x.endEnteredLead r dep) := by
  unfold State.endEnteredLead
  split
  · split
    · exact ⟨rfl, rfl, rfl⟩
    · exact refl x
  · exact refl x

theorem partnerLeft (x : State) (partner : Nat) : Departing x (x.partnerLeft r dep partner cause) := by
  unfold State.partnerLeft
  split
  · split
    · exact (changeRecord x _ _).trans (raise _ _ _ _ _)
    · exact refl x
  · exact refl x

theorem afterRemoval (x : State) (p : Presence) : Departing x (x.afterRemoval cause p) := by
  unfold State.afterRemoval
  split
  · exact (foldl (fun x c => relink x c) _ x).trans (endEnteredLead _)
  · split
    · exact partnerLeft x _
    · exact refl x

theorem credentials (h : Departing x y) : y.roll.map Presence.credential = x.roll.map Presence.credential := by
  have second (z : State) : (z.roll.map fun p => (p.room, p.credential)).map Prod.snd = z.roll.map Presence.credential := by
    rw [List.map_map]
    rfl
  rw [← second, h.places, second]

end Departing

section
variable {x : State} {q : Presence} {cause : DepartureCause}

theorem linkedTo_iff_mem {dep : Nat} (once : (x.roll.map Presence.credential).Nodup) {p : Presence} (mem : p ∈ x.roll) :
    p.credential ∈ x.linkedTo dep ↔ p.linkedTo dep = true := by
  refine ⟨fun inList => ?_, fun linked => List.mem_map_of_mem (List.mem_filter.mpr ⟨mem, linked⟩)⟩
  obtain ⟨p0, mem0, same⟩ := List.mem_map.mp inList
  obtain ⟨mem0, linked⟩ := List.mem_filter.mp mem0
  rwa [← List.inj_on_of_nodup_map once mem0 mem same]

theorem State.endEnteredLead_eq (x : State) (r : RoomId) (staff : Nat) : x.endEnteredLead r staff =
    { x with
      slots := put x.slots r (match x.slot r with
        | .lead l => if l.staff = staff ∧ l.kind = .entered then .empty else .lead l
        | y => y) } := by
  have same (y : Slot) (is : x.slot r = y) : x = { x with slots := put x.slots r y } := by
    have kept : put x.slots r y = x.slots := is ▸ put_look x.slots r
    rw [kept]
  rw [State.endEnteredLead]
  cases slot : x.slot r with
  | lead l =>
    simp only
    split
    · rfl
    · exact same _ slot
  | party y => exact same _ slot
  | empty => exact same _ slot

/-- A staff record that has left: its contractors relinked in turn, and its ENTERED lead ended. -/
theorem State.staffLeft_eq (once : (x.roll.map Presence.credential).Nodup) (gone : ∀ p ∈ x.roll, p.credential ≠ q.credential) :
    x.staffLeft q.room q.credential cause = x.afterStaff q cause := by
  have turns : (x.linkedTo q.credential).Nodup := once.sublist (List.filter_sublist.map _)
  have linked : ∀ c ∈ x.linkedTo q.credential, ∃ p ∈ x.roll, p.credential = c ∧ p.linkedTo q.credential = true := by
    intro c mem
    obtain ⟨p, mem, is⟩ := List.mem_map.mp mem
    obtain ⟨mem, linked⟩ := List.mem_filter.mp mem
    exact ⟨p, mem, is, linked⟩
  have folded := relink_foldl (r := q.room) (cause := cause) (x.linkedTo q.credential) x turns linked once gone
  have rolls : x.roll.map (relinked (x.escortPlaces q.room) (x.linkedTo q.credential)) = x.roll.map fun p =>
      if p.linkedTo q.credential = true then
        let escort := (x.escortPlaces q.room)[(x.linkedTo q.credential).idxOf p.credential]?
        { p with
          contractor := p.contractor.map fun k =>
            { k with escort := escort, unescorted := k.unescorted || escort.isNone } }
      else p := by
    refine List.map_congr_left fun p mem => ?_
    simp only [relinked, linkedTo_iff_mem once mem]
  rw [rolls] at folded
  show ((x.linkedTo q.credential).foldl _ x).endEnteredLead q.room q.credential = _
  rw [folded, State.endEnteredLead_eq]
  rfl

/-- A contractor record that has left: the partner's link, where it still names it. -/
theorem State.partnerLeft_eq (once : (x.roll.map Presence.credential).Nodup) (partner : Nat) :
    x.partnerLeft q.room q.credential partner cause = x.afterContractor q (some partner) cause := by
  rw [State.partnerLeft, State.afterContractor]
  cases found : x.presenceOf partner with
  | none =>
    have none : (x.roll.any fun p => p.credential == partner && p.partnerOf q.credential) = false := by
      rw [List.any_eq_false]
      intro p mem
      simp [State.presenceOf_eq_none.mp found p mem]
    simp only [none]
    rfl
  | some p =>
    obtain ⟨mem, is⟩ := State.presenceOf_some found
    have any : (x.roll.any fun p => p.credential == partner && p.partnerOf q.credential) = p.partnerOf q.credential := by
      rw [Bool.eq_iff_iff, List.any_eq_true]
      refine ⟨?_, fun names => ⟨p, mem, by simp [is, names]⟩⟩
      rintro ⟨p0, mem0, both⟩
      obtain ⟨same, names⟩ := Bool.and_eq_true_iff.mp both
      rwa [← List.inj_on_of_nodup_map once mem0 mem ((beq_iff_eq.mp same).trans is.symm)]
    simp only [any]
    by_cases names : p.partnerOf q.credential = true
    · rw [if_pos names, if_pos names]
      rfl
    · rw [if_neg names, if_neg names]

/-- What one removed record leaves behind is what the rules list. -/
theorem State.afterRemoval_eq (once : (x.roll.map Presence.credential).Nodup)
    (gone : ∀ p ∈ x.roll, p.credential ≠ q.credential) :
    x.afterRemoval cause q = match q.contractor with
      | none => x.afterStaff q cause
      | some k => x.afterContractor q k.partner cause := by
  rw [State.afterRemoval]
  cases q.contractor with
  | none => exact State.staffLeft_eq once gone
  | some k =>
    cases partner : k.partner with
    | none => simp only [partner]; rfl
    | some b =>
      simp only [partner]
      exact State.partnerLeft_eq once b

end

/-! ## The departure as a whole -/

theorem foldl_congr_of_invariant {α β : Type} {f g : β → α → β} {inv : β → Prop} {l : List α} {s : β} (start : inv s)
    (same : ∀ x, inv x → ∀ a ∈ l, f x a = g x a) (kept : ∀ x a, inv x → inv (f x a)) : l.foldl f s = l.foldl g s := by
  induction l generalizing s with
  | nil => rfl
  | cons a l ih =>
    rw [List.foldl_cons, List.foldl_cons, ← same s start a List.mem_cons_self]
    exact ih (kept s a start) fun x holds b mem => same x holds b (List.mem_cons_of_mem a mem)

/-- The model's departure is the one the rules list, in a roll that names each person once. -/
theorem State.depart_eq (s : State) (r : RoomId) (gone : Presence → Bool) (cause : DepartureCause)
    (once : (s.roll.map Presence.credential).Nodup) : s.depart r gone cause = s.departed r gone cause := by
  let left := fun p : Presence => p.room == r && gone p
  let start : State := { s with roll := s.roll.filter fun p => !left p }
  let creds := start.roll.map Presence.credential
  have kept : ∀ (x : State) (q : Presence), x.roll.map Presence.credential = creds →
      (x.afterRemoval cause q).roll.map Presence.credential = creds :=
    fun x q holds => (Departing.afterRemoval x q).credentials.trans holds
  have same : ∀ x : State, x.roll.map Presence.credential = creds → ∀ q ∈ s.roll.filter left,
      x.afterRemoval cause q = match q.contractor with
        | none => x.afterStaff q cause
        | some k => x.afterContractor q k.partner cause := by
    intro x holds q removed
    obtain ⟨mem, leaves⟩ := List.mem_filter.mp removed
    refine State.afterRemoval_eq (holds ▸ once.sublist (List.filter_sublist.map _)) fun p inRoll same => ?_
    have inStart : p.credential ∈ creds := holds ▸ List.mem_map_of_mem inRoll
    obtain ⟨p0, stays, is⟩ := List.mem_map.mp inStart
    obtain ⟨mem0, stays⟩ := List.mem_filter.mp stays
    rw [List.inj_on_of_nodup_map once mem0 mem (is.trans same)] at stays
    simp [leaves] at stays
  have folded := foldl_congr_of_invariant (s := start) (l := s.roll.filter left) (inv := fun x => x.roll.map Presence.credential = creds)
    rfl same kept
  let t : State := (s.roll.filter left).foldl (fun x q => x.afterRemoval cause q) start
  have keeps : Keeps [.roll, .slots, .reports] start t := Keeps.fold (fun x q => afterRemoval_keeps x cause q) _ start
  have settings : t.settings = s.settings := keeps .settings (by decide)
  have clock : t.clock = s.clock := keeps .clock (by decide)
  have evaluated : rollEvaluated (t.roomSettings r).checkInInterval t.clock.minute r t.roll
      = rollEvaluated (s.roomSettings r).checkInInterval s.clock.minute r t.roll := by
    rw [State.roomSettings, settings, clock]
    rfl
  show t.evaluateLone r = _
  rw [State.evaluateLone_eq, evaluated]
  exact congrArg (fun y : State =>
    ({ y with roll := rollEvaluated (s.roomSettings r).checkInInterval s.clock.minute r y.roll } : State)) folded

/-- A state with another trunk port and other last presentations. -/
def State.aside (s : State) (port : TrunkPort) (seen : Vector (Option LastPresentation) 16) : State :=
  { s with trunk := port, lastSeen := seen }

/-- A departure does not read or change the trunk port and the last presentations. -/
theorem State.departed_aside (s : State) (port : TrunkPort) (seen : Vector (Option LastPresentation) 16) (r : RoomId)
    (gone : Presence → Bool) (cause : DepartureCause) :
    (s.aside port seen).departed r gone cause = (s.departed r gone cause).aside port seen := by
  let step : State → Presence → State := fun x q => match q.contractor with
    | none => x.afterStaff q cause
    | some k => x.afterContractor q k.partner cause
  have one (x : State) (q : Presence) : step (x.aside port seen) q = (step x q).aside port seen := by
    show (match q.contractor with
      | none => (x.aside port seen).afterStaff q cause
      | some k => (x.aside port seen).afterContractor q k.partner cause) = State.aside (match q.contractor with
      | none => x.afterStaff q cause
      | some k => x.afterContractor q k.partner cause) port seen
    cases q.contractor with
    | none => rfl
    | some k =>
      cases partner : k.partner with
      | none => simp only [partner]; rfl
      | some b =>
        simp only [partner, State.afterContractor]
        by_cases names : (x.roll.any fun p => p.credential == b && p.partnerOf q.credential) = true
        · have also : ((x.aside port seen).roll.any fun p => p.credential == b && p.partnerOf q.credential) = true := names
          rw [if_pos names, if_pos also]
          rfl
        · have also : ¬ ((x.aside port seen).roll.any fun p => p.credential == b && p.partnerOf q.credential) = true := names
          rw [if_neg names, if_neg also]
  have all (l : List Presence) (x : State) : l.foldl step (x.aside port seen) = (l.foldl step x).aside port seen := by
    induction l generalizing x with
    | nil => rfl
    | cons q l ih => rw [List.foldl_cons, List.foldl_cons, one, ih]
  exact congrArg (fun y : State =>
    ({ y with roll := rollEvaluated (s.roomSettings r).checkInInterval s.clock.minute r y.roll } : State))
    (all (s.roll.filter fun p => p.room == r && gone p) { s with roll := s.roll.filter fun p => !(p.room == r && gone p) })

theorem State.departed_lastSeen (s : State) (r : RoomId) (gone : Presence → Bool) (cause : DepartureCause) :
    (s.departed r gone cause).lastSeen = s.lastSeen :=
  (congrArg State.lastSeen (State.departed_aside s s.trunk s.lastSeen r gone cause)).trans rfl

theorem State.departed_taken (s : State) (rest : List Request) (r : RoomId) (gone : Presence → Bool) (cause : DepartureCause) :
    (s.taken rest).departed r gone cause = (s.departed r gone cause).withTrunk { s.trunk with commands := rest } := by
  refine (State.departed_aside s { s.trunk with commands := rest } s.lastSeen r gone cause).trans ?_
  rw [← State.departed_lastSeen s r gone cause]
  rfl

/-! ## RECONCILE ROOM (06 R117, R118) -/

/-- The records that stay are where they were, in their order. -/
theorem Departing.depart (s : State) (r : RoomId) (gone : Presence → Bool) (cause : DepartureCause) :
    Departing (s.withRoll (s.roll.filter fun p => !(p.room == r && gone p))) (s.depart r gone cause) :=
  (Departing.foldl (fun x q => Departing.afterRemoval x q) _ _).trans (Departing.evaluateLone _ r)

/-- A state that keeps every field but those of the rooms, slots, roll and reports is the other with these four changed. -/
theorem Keeps.eq_of_people {s t : State} (h : Keeps [.rooms, .slots, .roll, .reports] s t) :
    t = { s with rooms := t.rooms, slots := t.slots, roll := t.roll, reports := t.reports } := by
  have same (f : Field) (other : f ∉ [Field.rooms, .slots, .roll, .reports]) := h f other
  obtain ⟨_, _, _, _, _, _, _, _, _, _, _, _, _, _, _, _, _, _, _, _, _⟩ := s
  obtain ⟨_, _, _, _, _, _, _, _, _, _, _, _, _, _, _, _, _, _, _, _, _⟩ := t
  obtain rfl := same .pending (by decide)
  obtain rfl := same .phase (by decide)
  obtain rfl := same .now (by decide)
  obtain rfl := same .serial (by decide)
  obtain rfl := same .memory (by decide)
  obtain rfl := same .loadResult (by decide)
  obtain rfl := same .settings (by decide)
  obtain rfl := same .retired (by decide)
  obtain rfl := same .permits (by decide)
  obtain rfl := same .roster (by decide)
  obtain rfl := same .clock (by decide)
  obtain rfl := same .doors (by decide)
  obtain rfl := same .stations (by decide)
  obtain rfl := same .field (by decide)
  obtain rfl := same .trunk (by decide)
  obtain rfl := same .executor (by decide)
  obtain rfl := same .lastSeen (by decide)
  rfl

section
variable {tag : Nat} {body : List Byte} {r : RoomId} {named : List Nat} {u : State}

theorem reconcileRoomRule_enabled (fields : reconcileFields body = .ok (r, named)) (on : (u.roomSettings r).enabled = true) :
    reconcileRoomRule { tag := tag, name := 15, body := body } u = answered (u.reconcile r named) .done
      (.reconciled ((u.recordsOf r).filter fun p => !named.contains p.credential).length
        ((u.recordsOf r).filter fun p => named.contains p.credential).length
        (named.eraseDups.filter fun c => !(u.recordsOf r).any fun p => p.credential == c).length) := by
  have counted : (u.recordsOf r).length - (u.recordsOf r).countP (fun p => named.contains p.credential)
      = ((u.recordsOf r).filter fun p => !named.contains p.credential).length := by
    have both := sum_filter_add_sum_filter_not (u.recordsOf r) (fun p => named.contains p.credential) fun _ => 1
    simp only [List.map_const', List.sum_replicate, smul_eq_mul, mul_one] at both
    rw [List.countP_eq_length_filter]
    omega
  rw [← counted, ← List.countP_eq_length_filter]
  simp only [reconcileRoomRule, fields, on]
  rfl

theorem reconcileRoomRule_disabled (fields : reconcileFields body = .ok (r, named)) (off : (u.roomSettings r).enabled = false) :
    reconcileRoomRule { tag := tag, name := 15, body := body } u = answered u .notAllowed .nothing := by
  simp only [reconcileRoomRule, fields, off]
  rfl

end

/-- Settles O37: the records not named leave as one departure, and the roll state becomes EXACT. -/
theorem reconcileRoomMatchesTheList : Obligations.ReconcileRoomMatchesTheList := by
  intro tag r named rest s few valid head here
  have fields := reconcileFields_bytesOf r few valid
  let u : State := s.taken rest
  refine ⟨fun on => ?_, fun off => ?_⟩
  · let t : State := u.depart r (fun p => !named.contains p.credential) .reconcile
    have keeps : Keeps [.roll, .slots, .reports] u t := depart_keeps u r _ _
    have departing : Departing (u.withRoll (u.roll.filter fun p => !(p.room == r && !named.contains p.credential))) t :=
      Departing.depart u r _ _
    have rooms : t.rooms = s.rooms := keeps .rooms (by decide)
    have ran := reconcileRoomRule_enabled (tag := tag) (u := u) fields on
    refine ⟨_, congrArg Host.Outcome.next (executeNamed_of_atHead head ran), ?_, ?_, ?_, fun q other => ?_, departing.routine, ?_,
      fun once => ?_⟩
    · exact Keeps.eq_of_people (((keeps.mono).trans ((setRollState_keeps t r .exact).mono)).trans
        ((answer_keeps (t.setRollState r .exact) { tag := tag, name := 15, body := [] } .done _).mono))
    · refine departing.places.trans (congrArg (List.map fun p : Presence => (p.room, p.credential)) ?_)
      refine List.filter_congr fun p _ => ?_
      cases here : p.room == r <;> simp [here, bne]
    · exact congrArg RoomState.rollState (look_put_self _ r _)
    · exact (look_put_other _ _ _ _ (Ne.symm other)).trans (congrArg (fun v => look v q) rooms)
    · exact congrArg (· ++ _) departing.answers
    · have left : t = (s.departed r (fun p => !named.contains p.credential) .reconcile).withTrunk { s.trunk with commands := rest } :=
        (State.depart_eq u r _ _ once).trans (State.departed_taken s rest r _ _)
      exact ⟨(congrArg State.roll left).trans rfl, (congrArg State.slots left).trans rfl,
        (congrArg (fun x => x.reports.alarms) left).trans rfl, (congrArg (fun x => x.reports.overflow) left).trans rfl⟩
  · exact congrArg Host.Outcome.next (executeNamed_of_atHead head (reconcileRoomRule_disabled fields off))

end Sys2Proof.Machine

/-! PROOF. Frames in their envelope, and what the trunk line makes of them (O12, O19 to O23). -/

namespace Sys2Proof.Machine

set_option Elab.async false

/-! ## The envelope (12 R184) -/

theorem numberOf_bytesOf_crc (c : BitVec 16) : numberOf (bytesOf 2 c.toNat) = c.toNat :=
  numberOf_bytesOf (show c.toNat < 256 ^ 2 from c.isLt)

/-- What stands before the first start byte is discarded. -/
theorem dropWhile_startByte {before : List Byte} (none : ∀ b ∈ before, b ≠ startByte) (rest : List Byte) :
    (before ++ startByte :: rest).dropWhile (fun b => b != startByte) = startByte :: rest := by
  rw [List.dropWhile_append_of_pos fun b mem => by simpa using none b mem]
  simp

/-- The reading of a started frame with a payload whole and two CRC bytes. -/
theorem receive_framed (before after sent payload : List Byte) {destination source kind : Byte}
    (none : ∀ b ∈ before, b ≠ startByte) (short : payload.length ≤ 200) (two : sent.length = 2) :
    receive (before ++ (startByte :: destination :: source :: kind :: BitVec.ofNat 8 payload.length :: payload ++ sent) ++ after)
      = if numberOf sent = (crc (destination :: source :: kind :: BitVec.ofNat 8 payload.length :: payload)).toNat then
          .whole { destination := destination.toNat, source := source.toNat, kind := kind.toNat, payload := payload }
        else .badCrc := by
  have length : (BitVec.ofNat 8 payload.length).toNat = payload.length := by
    rw [BitVec.toNat_ofNat, Nat.mod_eq_of_lt (by omega)]
  have line : before ++ (startByte :: destination :: source :: kind :: BitVec.ofNat 8 payload.length :: payload ++ sent) ++ after
      = before ++ startByte :: (destination :: source :: kind :: BitVec.ofNat 8 payload.length :: (payload ++ (sent ++ after))) := by
    simp
  rw [line, receive, dropWhile_startByte none]
  simp only [length, Config.payloadMax]
  rw [if_neg (by omega), if_neg (by simp; omega), take_append_length _ rfl, drop_append_length _ rfl,
    take_append_length _ two]

/-- Settles O12: the length byte fixes where the payload ends, and the CRC that was sent is the one computed. -/
theorem framesAreReceivedAsSent : Obligations.FramesAreReceivedAsSent := by
  intro f before after destination source kind short none
  have read := receive_framed before after (bytesOf 2 (crc f.covered).toNat) f.payload
    (destination := BitVec.ofNat 8 f.destination) (source := BitVec.ofNat 8 f.source) (kind := BitVec.ofNat 8 f.kind) none short
    (bytesOf_length 2 _)
  refine (read.trans (if_pos (numberOf_bytesOf_crc _))).trans ?_
  simp only [BitVec.toNat_ofNat, Nat.mod_eq_of_lt destination, Nat.mod_eq_of_lt source, Nat.mod_eq_of_lt kind]

theorem receive_bytes {f : Frame} (destination : f.destination < 256) (source : f.source < 256) (kind : f.kind < 256)
    (short : f.payload.length ≤ 200) : receive f.bytes = .whole f := by
  have read := framesAreReceivedAsSent f [] [] destination source kind short (by simp)
  rwa [List.nil_append, List.append_nil] at read

/-! ## What the trunk line hears (09 R156, R157) -/

theorem State.hears_bytes {s : State} (listening : s.listening) {f : Frame} (destination : f.destination < 256)
    (source : f.source < 256) (kind : f.kind < 256) (short : f.payload.length ≤ 200) :
    s.hears f.bytes = judgeTrunk s.trunk.address s.serial f := by
  obtain ⟨running, quiet⟩ := listening
  have receives : s.receives = true := by simp [State.receives, State.isRunning, running, quiet]
  rw [State.hears, if_pos receives, receive_bytes destination source kind short]

section
variable {address serial destination : Nat} {payload : List Byte}

/-- A frame to the part's assigned address, by its kind. -/
theorem judgeTrunk_assigned (assigned : assignedAddress address) (kind : Nat) :
    judgeTrunk address serial (trunkFrame address kind payload) =
      if kind = 1 then .time payload else if kind = 2 then .command payload else if kind = 3 then .poll payload else .ignored := by
  obtain ⟨low, high⟩ := assigned
  have some : address ≠ 0 := by omega
  have given : address ≠ Config.unassigned := by
    simp only [Config.unassigned]
    omega
  exact (if_neg (not_not.mpr rfl)).trans ((if_neg some).trans ((if_neg (not_not.mpr rfl)).trans (if_neg given)))

theorem judgeTrunk_broadcastTime : judgeTrunk address serial (trunkFrame 0 1 payload) = .time payload := by
  simp [judgeTrunk, trunkFrame, kindTime]

/-- An unassigned part takes a COMMAND with its own serial number in an ASSIGN ADDRESS alone. -/
theorem judgeTrunk_unassigned (kind : Nat) : judgeTrunk 254 serial (trunkFrame 254 kind payload) =
    if kind = 2 ∧ holdsAssign serial payload = true then .command payload else .ignored :=
  (if_neg (not_not.mpr rfl)).trans ((if_neg (show ¬ 254 = 0 by decide)).trans ((if_neg (not_not.mpr rfl)).trans (if_pos rfl)))

theorem judgeTrunk_stranger {f : Frame} (other : f.source ≠ 255) : judgeTrunk address serial f = .ignored := by
  exact if_pos other

end

/-! ## TIME (02 R26) -/

theorem exec_timeFrame {s : State} {moment : Nat} {bytes payload : List Byte} (hears : s.hears bytes = .time payload) :
    exec (.timeFrame moment bytes) s = .next
      (match timeOf payload with
      | some (minute, second) => { s with
          now := max s.now moment, clock := Clock.setTo minute second (max s.now moment) }
      | none => s) := by
  show Host.Outcome.next _ = _
  rw [hears]
  rfl

theorem timeOf_bytes {minute second : Nat} (m : minute < 4294967296) (s : second < 256) :
    timeOf (bytesOf 4 minute ++ bytesOf 1 second) = if second ≤ 59 then some (minute, second) else none := by
  have length : (bytesOf 4 minute ++ bytesOf 1 second).length = 5 := by simp
  rw [timeOf, if_pos length, drop_append_length _ (bytesOf_length 4 _), take_append_length _ (bytesOf_length 4 _),
    numberOf_bytesOf (show minute < 256 ^ 4 from m), numberOf_bytesOf (show second < 256 ^ 1 from s)]

/-- Settles O19: the frame is heard as TIME, and its second decides. -/
theorem timeFrameSetsClock : Obligations.TimeFrameSetsClock := by
  intro moment minute second destination s listening hm hs forPart bytes
  have small : destination < 256 := by
    rcases forPart with rfl | ⟨-, -, high⟩
    · decide
    · omega
  have heard := State.hears_bytes listening (f := trunkFrame destination 1 (bytesOf 4 minute ++ bytesOf 1 second)) small
    (show 255 < 256 by decide) (show 1 < 256 by decide) (by simp [trunkFrame])
  have time : s.hears bytes = .time (bytesOf 4 minute ++ bytesOf 1 second) := by
    refine heard.trans ?_
    rcases forPart with rfl | ⟨rfl, assigned⟩
    · exact judgeTrunk_broadcastTime
    · exact judgeTrunk_assigned assigned 1
  have ran := exec_timeFrame (moment := moment) time
  rw [timeOf_bytes hm hs] at ran
  refine ⟨fun low => ?_, fun high => ?_⟩
  · rw [if_pos low] at ran
    exact ran
  · rw [if_neg (by omega)] at ran
    exact ran

/-! ## COMMAND (09 R155, R159, R161) -/

theorem exec_commandFrame {s : State} {moment : Nat} {bytes body : List Byte} {tag name : Byte}
    (hears : s.hears bytes = .command (tag :: name :: body)) :
    exec (.commandFrame moment bytes) s = .next
      (if s.trunk.commands.length < 4 then
        { s with
          now := max s.now moment
          trunk := { s.trunk with
            silenceTimer := some (countdownFrom (max s.now moment) (s.settings.part.trunkSilence * 1000))
            commands := s.trunk.commands ++ [{ tag := tag.toNat, name := name.toNat, body := body }] } }
      else
        { s with
          now := max s.now moment
          trunk := { s.trunk with
            silenceTimer := some (countdownFrom (max s.now moment) (s.settings.part.trunkSilence * 1000))
            refusals := min (s.trunk.refusals + 1) 255 } }) := by
  show Host.Outcome.next _ = _
  rw [hears]
  rfl

theorem exec_commandFrame_ignored {s : State} {moment : Nat} {bytes : List Byte} (hears : s.hears bytes = .ignored) :
    exec (.commandFrame moment bytes) s = .next s := by
  show Host.Outcome.next _ = _
  rw [hears]

theorem holdsAssign_iff {serial : Nat} {tag name : Byte} {body : List Byte} : holdsAssign serial (tag :: name :: body) = true ↔
    name = 26 ∧ 4 ≤ body.length ∧ numberOf (body.take 4) = serial := by
  have named : (name.toNat == nameAssignAddress) = true ↔ name = 26 := by
    rw [beq_iff_eq, ← BitVec.toNat_inj]
    rfl
  rw [holdsAssign, Bool.and_eq_true, Bool.and_eq_true, named, decide_eq_true_iff, beq_iff_eq, and_assoc]

/-- Settles O20: whether the frame is for the part, and whether the queue has a place. -/
theorem commandEntersQueue : Obligations.CommandEntersQueue := by
  intro moment tag name body s listening short frame timer taken
  have heard (small : s.trunk.address < 256) : s.hears frame
      = judgeTrunk s.trunk.address s.serial (trunkFrame s.trunk.address 2 (tag :: name :: body)) :=
    State.hears_bytes listening small (show 255 < 256 by decide) (show 2 < 256 by decide)
      (show body.length + 1 + 1 ≤ 200 by omega)
  have command (is : taken) : s.hears frame = .command (tag :: name :: body) := by
    rcases is with assigned | ⟨unassigned, assign⟩
    · have small : s.trunk.address < 256 := by
        obtain ⟨-, high⟩ := assigned
        omega
      exact (heard small).trans (judgeTrunk_assigned assigned 2)
    · rw [heard (by omega), unassigned, judgeTrunk_unassigned, if_pos ⟨rfl, holdsAssign_iff.mpr assign⟩]
  refine ⟨fun is place => ?_, fun is full => ?_, fun unassigned isNot => ?_⟩
  · exact (exec_commandFrame (command is)).trans (congrArg Host.Outcome.next (if_pos place))
  · exact (exec_commandFrame (command is)).trans (congrArg Host.Outcome.next (if_neg (Nat.not_lt.mpr full)))
  · refine exec_commandFrame_ignored ?_
    rw [heard (by omega), unassigned, judgeTrunk_unassigned, if_neg]
    rintro ⟨-, assign⟩
    exact isNot (.inr ⟨unassigned, holdsAssign_iff.mp assign⟩)

/-! ## POLL (09 R158, R160, 10 R169, R170) -/

theorem exec_poll {s : State} {moment : Nat} {bytes payload : List Byte} (hears : s.hears bytes = .poll payload) :
    exec (.poll moment bytes) s = .next
      ((((s.advance moment).restartSilence).restoreLink).reply (s.trunk.link == .silent) (holdFlag payload)) := by
  show Host.Outcome.next _ = _
  rw [hears]

theorem exec_poll_ignored {s : State} {moment : Nat} {bytes : List Byte} (hears : s.hears bytes = .ignored) :
    exec (.poll moment bytes) s = .next s := by
  show Host.Outcome.next _ = _
  rw [hears]

theorem exec_timeFrame_ignored {s : State} {moment : Nat} {bytes : List Byte} (hears : s.hears bytes = .ignored) :
    exec (.timeFrame moment bytes) s = .next s := by
  show Host.Outcome.next _ = _
  rw [hears]

theorem State.hears_poll {s : State} (listening : s.listening) (assigned : assignedAddress s.trunk.address) {payload : List Byte}
    (short : payload.length ≤ 200) : s.hears (trunkFrame s.trunk.address 3 payload).bytes = .poll payload := by
  have small : s.trunk.address < 256 := by
    obtain ⟨-, high⟩ := assigned
    omega
  exact (State.hears_bytes listening small (show 255 < 256 by decide) (show 3 < 256 by decide) short).trans
    (judgeTrunk_assigned assigned 3)

/-- Settles O23: frames abandoned, from another source, or to an unassigned part's 254 are not heard. -/
theorem framesThatComeToNothing : Obligations.FramesThatComeToNothing := by
  have deaf {s : State} {f : Frame} (destination : f.destination < 256) (source : f.source < 256) (kind : f.kind < 256)
      (short : f.payload.length ≤ 200) (judged : judgeTrunk s.trunk.address s.serial f = .ignored) : s.hears f.bytes = .ignored := by
    rw [State.hears, receive_bytes destination source kind short]
    simp only [judged, ite_self]
  refine ⟨fun bytes s => ⟨rfl, rfl⟩, fun moment f s destination source other kind short => ?_,
    fun moment payload s unassigned short => ?_⟩
  · have ignored : s.hears f.bytes = .ignored := deaf destination source kind short (judgeTrunk_stranger other)
    exact ⟨exec_timeFrame_ignored ignored, exec_commandFrame_ignored ignored, exec_poll_ignored ignored⟩
  · refine exec_poll_ignored (deaf (f := trunkFrame 254 3 payload) (show 254 < 256 by decide) (show 255 < 256 by decide)
      (show 3 < 256 by decide) short ?_)
    rw [unassigned, judgeTrunk_unassigned, if_neg (fun both => absurd both.1 (by decide))]

/-! ## The arbiter's choice (10 R169) -/

section
variable {q : Reports}

theorem Reports.choose_alarm {a : Alarm} {rest : List Alarm} (first : q.alarms = a :: rest) (hold : Bool) :
    q.choose hold = (.alarm a, { q with alarms := rest }) := by
  rw [Reports.choose, first]

theorem Reports.choose_answer {a : Answer} {rest : List Answer} (none : q.alarms = []) (first : q.answers = a :: rest)
    (hold : Bool) : q.choose hold = (.answer a, { q with alarms := [], answers := rest }) := by
  obtain ⟨_, _, _, _, _⟩ := q
  simp only at none first
  subst none first
  rfl

theorem Reports.choose_routine {i : RoutineItem} {rest : List RoutineItem} (noAlarm : q.alarms = []) (noAnswer : q.answers = [])
    (first : q.routine = i :: rest) :
    q.choose false = (.routine i, { q with alarms := [], answers := [], routine := rest }) := by
  obtain ⟨_, _, _, _, _⟩ := q
  simp only at noAlarm noAnswer first
  subst noAlarm noAnswer first
  rfl

theorem Reports.choose_empty {hold : Bool} (noAlarm : q.alarms = []) (noAnswer : q.answers = [])
    (nothing : hold = true ∨ q.routine = []) : q.choose hold = (.empty, { q with alarms := [], answers := [] }) := by
  obtain ⟨_, _, _, _, _⟩ := q
  simp only at noAlarm noAnswer nothing
  subst noAlarm noAnswer
  rcases nothing with rfl | rfl
  · rfl
  · cases hold <;> rfl

end

/-- The reply to a POLL by the arbiter's choice, with the header composed after it. -/
theorem State.reply_eq {s : State} {silent hold : Bool} {item : ReplyItem} {reports : Reports}
    (chosen : s.reports.choose hold = (item, reports)) : s.reply silent hold =
      { s with
        trunk := { s.trunk with
          refusals := 0
          reply := some
            { frame := (replyFrame s.trunk.address
                { timeState := s.clock.timeState, store := s.retired.store, silent := silent, overflow := reports.overflow,
                  discards := reports.discards, refusals := s.trunk.refusals, alarms := reports.alarms.length,
                  routine := reports.routine.length } item).bytes
              carriesRestart := item.restarts } }
        reports := { reports with discards := 0 } } := by
  rw [State.reply, chosen]
  rfl

theorem State.restoreLink_online {s : State} (online : s.trunk.link = .online) : s.restoreLink = s := by
  rw [State.restoreLink, online]

/-- The reply to a POLL on an ONLINE link, by what the arbiter chooses. -/
theorem exec_poll_online {s : State} {moment : Nat} {hold : Bool} (listening : s.listening)
    (assigned : assignedAddress s.trunk.address) (online : s.trunk.link = .online) {item : ReplyItem} {restart : Bool}
    {reports : Reports} (chosen : s.reports.choose hold = (item, reports)) (restarts : item.restarts = restart) :
    exec (.poll moment (trunkFrame s.trunk.address 3 [if hold then 1 else 0]).bytes) s = .next
      { s with
        now := max s.now moment
        trunk := { s.trunk with
          silenceTimer := some (countdownFrom (max s.now moment) (s.settings.part.trunkSilence * 1000))
          refusals := 0
          reply := some
            { frame := (replyFrame s.trunk.address
                { timeState := s.clock.timeState, store := s.retired.store, silent := false, overflow := reports.overflow,
                  discards := reports.discards, refusals := s.trunk.refusals, alarms := reports.alarms.length,
                  routine := reports.routine.length } item).bytes
              carriesRestart := restart } }
        reports := { reports with discards := 0 } } := by
  have flag : holdFlag [if hold then 1 else 0] = hold := by cases hold <;> rfl
  have heard := State.hears_poll listening assigned (payload := [if hold then 1 else 0]) (show 1 ≤ 200 by decide)
  have reply := State.reply_eq (s := (s.advance moment).restartSilence) (silent := false) chosen
  rw [restarts] at reply
  refine (exec_poll heard).trans (congrArg Host.Outcome.next ?_)
  rw [flag, State.restoreLink_online (s := (s.advance moment).restartSilence) online, online]
  exact reply

/-- Settles O21: the arbiter's four choices. -/
theorem pollCarriesTheFirstItem : Obligations.PollCarriesTheFirstItem := by
  intro moment hold s listening assigned online frame replied
  refine ⟨fun a rest first => ?_, fun a rest none first => ?_, fun i rest noAlarm noAnswer routine first => ?_,
    fun noAlarm noAnswer nothing => ?_⟩
  · exact exec_poll_online listening assigned online (Reports.choose_alarm first hold) rfl
  · have ran := exec_poll_online listening assigned online (moment := moment) (Reports.choose_answer none first hold) rfl
    exact ran
  · subst routine
    have ran := exec_poll_online listening assigned online (moment := moment) (Reports.choose_routine noAlarm noAnswer first) rfl
    exact ran
  · have ran := exec_poll_online listening assigned online (moment := moment) (Reports.choose_empty noAlarm noAnswer nothing) rfl
    exact ran

/-! ## A SILENT link (09 R160) -/

theorem Reports.offerAlarm_some (q : Reports) (a : Alarm) : ∃ b rest, (q.offerAlarm a).alarms = b :: rest := by
  refine List.exists_cons_of_ne_nil fun none => ?_
  rcases Reports.offerAlarm_cases q a with ⟨waiting, eq⟩ | ⟨-, -, eq⟩ | ⟨-, full, eq⟩
  · rw [eq] at none
    rw [List.map_eq_nil_iff.mp none] at waiting
    cases waiting
  · rw [eq] at none
    exact List.append_ne_nil_of_right_ne_nil _ (List.cons_ne_nil _ _) none
  · rw [eq] at none
    rw [show q.alarms = [] from none] at full
    exact full (by decide)

theorem State.restoreLink_silent {s : State} {since : Nat} (silent : s.trunk.link = .silent)
    (from_ : s.trunk.silentSince = some since) : s.restoreLink =
      { s with
        trunk := { s.trunk with link := .online, silentSince := none }
        reports := s.reports.offerAlarm (s.alarmNow none none none
          (.linkRestored (min ((s.now - since) / 1000) 65535))) } := by
  have seconds : s.silentSeconds = min ((s.now - since) / 1000) 65535 := by
    rw [State.silentSeconds, from_]
    rfl
  rw [State.restoreLink, silent, ← seconds]
  rfl

/-- Settles O22: LINK_RESTORED is offered before the arbiter chooses. -/
theorem pollRestoresTheLink : Obligations.PollRestoresTheLink := by
  intro moment since s listening assigned silent from_ restored
  let x : State := (s.advance moment).restartSilence
  have ran : exec (.poll moment (trunkFrame s.trunk.address 3 []).bytes) s = .next (x.restoreLink.reply true false) := by
    rw [exec_poll (State.hears_poll listening assigned (Nat.zero_le _)), silent]
    rfl
  have link := State.restoreLink_silent (s := x) silent from_
  obtain ⟨b, others, first⟩ := Reports.offerAlarm_some s.reports restored
  have reply := State.reply_eq (silent := true) (Reports.choose_alarm (q := x.restoreLink.reports) (hold := false)
    ((congrArg (fun y : State => y.reports.alarms) link).trans first))
  rw [link] at reply ran
  rw [reply] at ran
  refine ⟨_, ran, rfl, rfl, rfl, rfl, rfl, rfl, rfl, Reports.offerAlarm_answers _ _, Reports.offerAlarm_routine _ _, rfl,
    fun none => ?_, fun a rest is places apart => ?_⟩
  · have placed : s.reports.offerAlarm restored = { s.reports with alarms := [restored] } := by
      simp [Reports.offerAlarm, none, Config.alarmPlaces]
    rw [placed] at first
    obtain ⟨rfl, rfl⟩ := List.cons.inj first
    refine ⟨rfl, ?_⟩
    show some _ = some _
    rw [show x.reports.offerAlarm (x.alarmNow Option.none Option.none Option.none (.linkRestored (min ((x.now - since) / 1000) 65535)))
      = { s.reports with alarms := [restored] } from placed]
    rfl
  · have placed : s.reports.offerAlarm restored = { s.reports with alarms := s.reports.alarms ++ [restored] } := by
      have new : s.reports.alarms.any (fun b => b.key == restored.key) = false := by
        rw [List.any_eq_false]
        exact fun b mem => by simpa using apart b mem
      have place : s.reports.alarms.length < Config.alarmPlaces := places
      rw [Reports.offerAlarm, new, if_neg Bool.false_ne_true, if_pos place]
    rw [placed, is] at first
    exact (List.cons.inj first).2.symm

end Sys2Proof.Machine

/-! PROOF. The passing of seconds: the count of the clock (O46) and the minute walk of the roll (O47). -/

namespace Sys2Proof.Machine

set_option Elab.async false

/-! ## The second tick (02 R25, R28, R29) -/

theorem isRunning_of_running {s : State} (running : s.phase = .running) : s.isRunning = true := by
  rw [State.isRunning, running]
  rfl

theorem execSecondTick_minute {s : State} {staleFirst : Bool} (running : s.phase = .running) (past : 59 ≤ s.clock.second) :
    exec (.secondTick staleFirst) s
      = .next (((s.advance s.clock.nextCount).withClock s.clock.nextMinute).minuteEvent staleFirst) := by
  show Host.Outcome.next _ = _
  rw [if_pos (isRunning_of_running running)]
  exact congrArg Host.Outcome.next (if_pos (decide_eq_true past))

/-- With an empty roll the minute event is the staleness check, whichever comes first. -/
theorem State.minuteEvent_of_empty {x : State} (empty : x.roll = []) (staleFirst : Bool) :
    x.minuteEvent staleFirst = x.staleness := by
  have still (t : Nat) : x.rollMinute t = x := by rw [State.rollMinute, empty]; rfl
  have kept : x.staleness.roll = [] := by
    rw [State.staleness]
    dsimp only
    split <;> exact empty
  cases staleFirst with
  | false => rw [State.minuteEvent, if_neg Bool.false_ne_true, still]
  | true => rw [State.minuteEvent, if_pos rfl, State.rollMinute, kept]; rfl

/-- Settles O46: below 59 the second alone is counted, and else the staleness check of the next minute is made. -/
theorem secondTickCounts : Obligations.SecondTickCounts := by
  intro staleFirst s running now next
  refine ⟨fun low => ?_, fun past empty => ?_⟩
  · show Host.Outcome.next _ = _
    rw [if_pos (isRunning_of_running running)]
    exact congrArg Host.Outcome.next (if_neg (mt of_decide_eq_true (Nat.not_le.mpr low)))
  · intro minute count
    have ran := (execSecondTick_minute running past).trans
      (congrArg Host.Outcome.next (State.minuteEvent_of_empty (x := (s.advance s.clock.nextCount).withClock s.clock.nextMinute)
        empty staleFirst))
    refine ⟨fun fresh => ran.trans (congrArg Host.Outcome.next (if_neg fresh)), fun due set => ?_⟩
    have stale := ran.trans (congrArg Host.Outcome.next (if_pos ⟨due, set⟩))
    exact stale

/-! ## Alarms told: in the queue, or lost with the overflow flag (10 R171, R172) -/

/-- An alarm of a key waits, or the overflow flag tells that one was lost. -/
def Reports.Tells (q : Reports) (key : AlarmKind × Option RoomId × Option Nat × Option Nat) : Prop :=
  q.overflow = true ∨ ∃ a ∈ q.alarms, a.key = key

theorem Reports.tells_offerAlarm (q : Reports) (a : Alarm) : (q.offerAlarm a).Tells a.key := by
  obtain ⟨waits, eq⟩ | ⟨-, -, eq⟩ | ⟨-, -, eq⟩ := q.offerAlarm_cases a <;> rw [eq]
  · obtain ⟨b, mem, same⟩ := List.any_eq_true.mp waits
    have key : b.key = a.key := eq_of_beq same
    exact .inr ⟨b.absorb a, List.mem_map.mpr ⟨b, mem, if_pos same⟩, (Alarm.absorb_key key).trans key⟩
  · exact .inr ⟨a, List.mem_append_right _ List.mem_cons_self, rfl⟩
  · exact .inl rfl

/-- Reports that follow others by alarms alone: no other queue has changed, and every alarm told is told still. -/
structure Reports.Alarmed (q q' : Reports) : Prop where
  answers : q'.answers = q.answers
  routine : q'.routine = q.routine
  discards : q'.discards = q.discards
  tells : ∀ key, q.Tells key → q'.Tells key

theorem Reports.Alarmed.refl (q : Reports) : q.Alarmed q := ⟨rfl, rfl, rfl, fun _ => id⟩

theorem Reports.Alarmed.trans {q q' q'' : Reports} (h : q.Alarmed q') (k : q'.Alarmed q'') : q.Alarmed q'' :=
  ⟨k.answers.trans h.answers, k.routine.trans h.routine, k.discards.trans h.discards,
    fun key told => k.tells key (h.tells key told)⟩

theorem Reports.Alarmed.offerAlarm (q : Reports) (a : Alarm) : q.Alarmed (q.offerAlarm a) where
  answers := Reports.offerAlarm_answers q a
  routine := Reports.offerAlarm_routine q a
  discards := Reports.offerAlarm_discards q a
  tells key told := by
    obtain lost | ⟨b, mem, is⟩ := told
    · exact .inl (Reports.offerAlarm_overflow lost)
    obtain ⟨-, eq⟩ | ⟨-, -, eq⟩ | ⟨-, -, eq⟩ := q.offerAlarm_cases a <;> rw [eq]
    · refine .inr ⟨if b.key == a.key then b.absorb a else b, List.mem_map.mpr ⟨b, mem, rfl⟩, ?_⟩
      split
      next same => exact (Alarm.absorb_key (eq_of_beq same)).trans is
      next => exact is
    · exact .inr ⟨b, List.mem_append_left _ mem, is⟩
    · exact .inl rfl

/-! ## One record of the walk (06 R109, R111, R113) -/

/-- A contractor part after the stay comparison alone. -/
def ContractorPart.stayed (t : Nat) (k : ContractorPart) : ContractorPart :=
  { k with overstayRaised := k.overstayRaised || k.stayDeadline ≤ t }

/-- A contractor part after the check-in comparison alone. -/
def ContractorPart.checked (t interval : Nat) (k : ContractorPart) : ContractorPart :=
  { k.atMinute t interval with overstayRaised := k.overstayRaised }

theorem ContractorPart.checked_first {t d interval : Nat} {k : ContractorPart} (armed : k.checkIn = .armed d) (due : d ≤ t)
    (first : k.checkInOverdue = 0) :
    k.checked t interval = { k with checkIn := .armed (addMinutes d interval), checkInOverdue := 1 } := by
  simp only [ContractorPart.checked, ContractorPart.atMinute, armed, if_neg (Nat.not_lt.mpr due), if_pos first]
  rfl

theorem ContractorPart.checked_again {t d interval : Nat} {k : ContractorPart} (armed : k.checkIn = .armed d) (due : d ≤ t)
    (again : k.checkInOverdue ≠ 0) : k.checked t interval = { k with checkIn := .spent d, checkInOverdue := 2 } := by
  simp only [ContractorPart.checked, ContractorPart.atMinute, armed, if_neg (Nat.not_lt.mpr due), if_neg again]

/-- A record after a minute event. -/
def Presence.atMinute (p : Presence) (t interval : Nat) : Presence :=
  { p with contractor := p.contractor.map fun k => k.atMinute t interval }

theorem Presence.checked_stayed (p : Presence) (t interval : Nat) :
    (p.mapContractor (ContractorPart.stayed t)).mapContractor (ContractorPart.checked t interval) = p.atMinute t interval := by
  obtain ⟨room, credential, minute, second, contractor⟩ := p
  cases contractor <;> rfl

section
variable {x : State} {l m : List Presence} {p : Presence} {t : Nat}

/-- A change of a record's credential in a roll of different credentials changes the record alone. -/
theorem changeRecord_at (roll : x.roll = l ++ p :: m) (once : (x.roll.map Presence.credential).Nodup)
    (f : ContractorPart → ContractorPart) :
    x.changeRecord p.credential f = { x with roll := l ++ p.mapContractor f :: m } := by
  rw [roll, List.map_append, List.map_cons, List.nodup_append, List.nodup_cons] at once
  obtain ⟨-, ⟨after, -⟩, before⟩ := once
  have kept (k : List Presence) (others : ∀ q ∈ k, q.credential ≠ p.credential) :
      (k.map fun q => if q.credential = p.credential then q.mapContractor f else q) = k := by
    rw [List.map_congr_left fun q mem => if_neg (others q mem), List.map_id']
  have changed : (x.roll.map fun q => if q.credential = p.credential then q.mapContractor f else q)
      = l ++ p.mapContractor f :: m := by
    rw [roll, List.map_append, List.map_cons, if_pos rfl,
      kept l fun q mem => before _ (List.mem_map_of_mem mem) _ List.mem_cons_self,
      kept m fun q mem same => after (same ▸ List.mem_map_of_mem mem)]
  exact congrArg (fun roll => { x with roll := roll }) changed

theorem stayCheck_eq (roll : x.roll = l ++ p :: m) (once : (x.roll.map Presence.credential).Nodup) (t : Nat) :
    ∃ q, x.stayCheck p t = { x with roll := l ++ p.mapContractor (ContractorPart.stayed t) :: m, reports := q } ∧
      x.reports.Alarmed q ∧
      ∀ k, p.contractor = some k → k.overstayRaised = false → k.stayDeadline ≤ t →
        q.Tells (.overstay, some p.room, some p.credential, none) := by
  cases is : p.contractor with
  | none =>
    refine ⟨x.reports, ?_, .refl _, fun k of => nomatch of⟩
    rw [State.stayCheck, is, Presence.mapContractor, is]
    obtain ⟨room, credential, minute, second, contractor⟩ := p
    cases is
    exact congrArg (fun roll => { x with roll := roll }) roll
  | some k =>
    by_cases due : k.stayDeadline ≤ t ∧ k.overstayRaised = false
    · have change : p.mapContractor (ContractorPart.stayed t) = p.mapContractor fun k => { k with overstayRaised := true } := by
        rw [Presence.mapContractor, Presence.mapContractor, is]
        simp only [Option.map_some, ContractorPart.stayed, decide_eq_true due.1, Bool.or_true]
      refine ⟨_, ?_, Reports.Alarmed.offerAlarm _ (x.alarmNow (some p.room) (some p.credential) none
        (.overstay k.permitNumber p.entryMinute k.stayDeadline k.unescorted k.withdrawn)), fun _ _ _ _ =>
        Reports.tells_offerAlarm _ _⟩
      rw [State.stayCheck, is, change]
      dsimp only
      rw [if_pos due, changeRecord_at roll once]
      rfl
    · have same : p.mapContractor (ContractorPart.stayed t) = p := by
        obtain ⟨room, credential, minute, second, contractor⟩ := p
        cases is
        have flag : (k.overstayRaised || decide (k.stayDeadline ≤ t)) = k.overstayRaised := by
          cases raised : k.overstayRaised with
          | true => rfl
          | false => exact decide_eq_false fun low => due ⟨low, raised⟩
        rw [Presence.mapContractor, Option.map_some, ContractorPart.stayed, flag]
      refine ⟨x.reports, ?_, .refl _, fun _ of fresh low => absurd ⟨low, fresh⟩ (Option.some.inj of ▸ due)⟩
      rw [State.stayCheck, is, same, ← roll]
      dsimp only
      rw [if_neg due]

/-- The check-in comparison of a record that the roll holds in another form with the same credential and check-in. -/
theorem checkInCheck_eq {p' : Presence} (roll : x.roll = l ++ p' :: m) (once : (x.roll.map Presence.credential).Nodup)
    (is : p' = p.mapContractor (ContractorPart.stayed t)) :
    ∃ q, x.checkInCheck p t =
        { x with
          roll := l ++ p'.mapContractor (ContractorPart.checked t (x.roomSettings p.room).checkInInterval) :: m
          reports := q } ∧
      x.reports.Alarmed q ∧
      ∀ k d, p.contractor = some k → k.checkIn = .armed d → d ≤ t →
        q.Tells (.loneWorkerOverdue, some p.room, some p.credential, none) := by
  have same : p'.credential = p.credential := by rw [is]; rfl
  have at_ := changeRecord_at roll once
  rw [same] at at_
  have idle (same : p'.mapContractor (ContractorPart.checked t (x.roomSettings p.room).checkInInterval) = p')
      (skips : x.checkInCheck p t = x)
      (never : ∀ k d, p.contractor = some k → k.checkIn = .armed d → ¬ d ≤ t) :
      ∃ q, x.checkInCheck p t = { x with
          roll := l ++ p'.mapContractor (ContractorPart.checked t (x.roomSettings p.room).checkInInterval) :: m
          reports := q } ∧ x.reports.Alarmed q ∧ ∀ k d, p.contractor = some k → k.checkIn = .armed d → d ≤ t →
        q.Tells (.loneWorkerOverdue, some p.room, some p.credential, none) := by
    refine ⟨x.reports, ?_, .refl _, fun k d of armed due => absurd due (never k d of armed)⟩
    rw [skips, same, ← roll]
  obtain ⟨room, credential, minute, second, contractor⟩ := p
  cases contractor with
  | none =>
    subst is
    exact idle rfl rfl fun k d of => nomatch of
  | some k =>
    subst is
    obtain ⟨number, index, rule, company, deadline, checkIn, escort, partner, raised, overdue, unescorted, withdrawn⟩ := k
    cases checkIn with
    | absent => exact idle rfl rfl fun k d of armed => by cases of; cases armed
    | spent d => exact idle rfl rfl fun k d of armed => by cases of; cases armed
    | armed d =>
      by_cases due : d ≤ t
      · by_cases first : overdue = 0
        · refine ⟨_, ?_, Reports.Alarmed.offerAlarm _ (x.alarmNow (some room) (some credential) none
            (.loneWorkerOverdue 1 d (x.roomSettings room).checkInInterval)), fun _ _ _ _ _ => Reports.tells_offerAlarm _ _⟩
          refine (if_pos due).trans ((if_pos first).trans ?_)
          rw [at_]
          have change := ContractorPart.checked_first (interval := (x.roomSettings room).checkInInterval)
            (k := ContractorPart.stayed t ⟨number, index, rule, company, deadline, .armed d, escort, partner, raised, overdue,
              unescorted, withdrawn⟩) rfl due first
          rw [Presence.mapContractor, Presence.mapContractor, Presence.mapContractor, Option.map_some, Option.map_some,
            Option.map_some, change]
          rfl
        · refine ⟨_, ?_, Reports.Alarmed.offerAlarm _ (x.alarmNow (some room) (some credential) none
            (.loneWorkerOverdue 2 d (x.roomSettings room).checkInInterval)), fun _ _ _ _ _ => Reports.tells_offerAlarm _ _⟩
          refine (if_pos due).trans ((if_neg first).trans ?_)
          rw [at_]
          have change := ContractorPart.checked_again (interval := (x.roomSettings room).checkInInterval)
            (k := ContractorPart.stayed t ⟨number, index, rule, company, deadline, .armed d, escort, partner, raised, overdue,
              unescorted, withdrawn⟩) rfl due first
          rw [Presence.mapContractor, Presence.mapContractor, Presence.mapContractor, Option.map_some, Option.map_some,
            Option.map_some, change]
          rfl
      · refine idle ?_ (if_neg due) fun k d of armed => by cases of; cases armed; exact due
        simp only [Presence.mapContractor, Option.map_some, ContractorPart.checked, ContractorPart.atMinute,
          ContractorPart.stayed, if_pos (Nat.not_le.mp due)]

end

/-! ## The walk -/

/-- Both comparisons of one record. -/
theorem walkOne_eq {x : State} {l m : List Presence} {p : Presence} (roll : x.roll = l ++ p :: m)
    (once : (x.roll.map Presence.credential).Nodup) (t : Nat) :
    ∃ q, (x.stayCheck p t).checkInCheck p t =
        { x with roll := l ++ p.atMinute t (x.roomSettings p.room).checkInInterval :: m, reports := q } ∧
      x.reports.Alarmed q ∧
      (∀ k, p.contractor = some k → k.overstayRaised = false → k.stayDeadline ≤ t →
        q.Tells (.overstay, some p.room, some p.credential, none)) ∧
      ∀ k d, p.contractor = some k → k.checkIn = .armed d → d ≤ t →
        q.Tells (.loneWorkerOverdue, some p.room, some p.credential, none) := by
  obtain ⟨q, stayed, alarmed, overstay⟩ := stayCheck_eq roll once t
  have still : ((l ++ p.mapContractor (ContractorPart.stayed t) :: m).map Presence.credential).Nodup := by
    rw [roll] at once
    simpa [Presence.mapContractor] using once
  obtain ⟨q', checked, alarmed', overdue⟩ := checkInCheck_eq
    (x := { x with roll := l ++ p.mapContractor (ContractorPart.stayed t) :: m, reports := q }) rfl still rfl
  rw [stayed, checked, Presence.checked_stayed]
  exact ⟨q', rfl, alarmed.trans alarmed', fun k of fresh due => alarmed'.tells _ (overstay k of fresh due), overdue⟩

/-- A record after the minute event, in a state's settings. -/
def State.recordAtMinute (s : State) (t : Nat) (p : Presence) : Presence :=
  p.atMinute t (s.roomSettings p.room).checkInInterval

theorem State.recordAtMinute_credential (s : State) (t : Nat) (p : Presence) :
    (s.recordAtMinute t p).credential = p.credential := rfl

/-- The rest of a walk, from a state in which the records before have been walked. -/
theorem walk_eq (t : Nat) (todo : List Presence) (x : State) (done : List Presence) (roll : x.roll = done ++ todo)
    (once : (x.roll.map Presence.credential).Nodup) :
    ∃ q, todo.foldl (fun s p => (s.stayCheck p t).checkInCheck p t) x =
        { x with roll := done ++ todo.map (x.recordAtMinute t), reports := q } ∧
      x.reports.Alarmed q ∧
      (∀ p ∈ todo, ∀ k, p.contractor = some k → k.overstayRaised = false → k.stayDeadline ≤ t →
        q.Tells (.overstay, some p.room, some p.credential, none)) ∧
      ∀ p ∈ todo, ∀ k d, p.contractor = some k → k.checkIn = .armed d → d ≤ t →
        q.Tells (.loneWorkerOverdue, some p.room, some p.credential, none) := by
  induction todo generalizing x done with
  | nil =>
    refine ⟨x.reports, ?_, .refl _, fun _ mem => absurd mem List.not_mem_nil, fun _ mem => absurd mem List.not_mem_nil⟩
    rw [List.foldl_nil, List.map_nil, ← roll]
  | cons p todo ih =>
    obtain ⟨q, step, alarmed, overstay, overdue⟩ := walkOne_eq roll once t
    have still : ((done ++ x.recordAtMinute t p :: todo).map Presence.credential).Nodup := by
      rw [roll] at once
      simpa [State.recordAtMinute_credential] using once
    obtain ⟨q', rest, alarmed', overstays, overdues⟩ := ih
      { x with roll := done ++ x.recordAtMinute t p :: todo, reports := q } (done ++ [x.recordAtMinute t p])
      (List.append_cons _ _ _) still
    refine ⟨q', ?_, alarmed.trans alarmed', fun r mem => ?_, fun r mem => ?_⟩
    · rw [List.foldl_cons, step]
      refine rest.trans ?_
      rw [List.append_assoc]
      rfl
    · rcases List.mem_cons.mp mem with rfl | mem
      · exact fun k of fresh due => alarmed'.tells _ (overstay k of fresh due)
      · exact overstays r mem
    · rcases List.mem_cons.mp mem with rfl | mem
      · exact fun k d of armed due => alarmed'.tells _ (overdue k d of armed due)
      · exact overdues r mem

/-- The staleness check changes the clock and the alarms alone. -/
theorem State.staleness_eq (x : State) : ∃ c q, x.staleness = { x with clock := c, reports := q } ∧
    c.minute = x.clock.minute ∧ x.reports.Alarmed q := by
  rw [State.staleness]
  dsimp only
  split
  next => exact ⟨_, _, rfl, rfl, Reports.Alarmed.offerAlarm _ _⟩
  next => exact ⟨_, _, rfl, rfl, .refl _⟩

/-- Settles O47: the walk in either order with the staleness check. -/
theorem minuteEventWalksTheRoll : Obligations.MinuteEventWalksTheRoll := by
  intro staleFirst s running past once minute
  let x : State := (s.advance s.clock.nextCount).withClock s.clock.nextMinute
  have ran := execSecondTick_minute (staleFirst := staleFirst) running past
  cases staleFirst with
  | true =>
    obtain ⟨c, q, stale, same, alarmed⟩ := State.staleness_eq x
    obtain ⟨q', walked, alarmed', overstays, overdues⟩ := walk_eq minute s.roll { x with clock := c, reports := q } [] rfl once
    refine ⟨{ x with clock := c, roll := s.roll.map (s.recordAtMinute minute), reports := q' }, ran.trans ?_, rfl, same, rfl,
      alarmed'.answers.trans alarmed.answers, alarmed'.routine.trans alarmed.routine,
      alarmed'.discards.trans alarmed.discards, overstays, overdues⟩
    have event : x.minuteEvent true = (x.staleness).rollMinute minute := rfl
    exact congrArg Host.Outcome.next (event.trans ((congrArg (fun y : State => y.rollMinute minute) stale).trans walked))
  | false =>
    obtain ⟨q, walked, alarmed, overstays, overdues⟩ := walk_eq minute s.roll x [] rfl once
    obtain ⟨c, q', stale, same, alarmed'⟩ := State.staleness_eq
      { x with roll := s.roll.map (s.recordAtMinute minute), reports := q }
    refine ⟨{ x with clock := c, roll := s.roll.map (s.recordAtMinute minute), reports := q' }, ran.trans ?_, rfl, same, rfl,
      alarmed'.answers.trans alarmed.answers, alarmed'.routine.trans alarmed.routine,
      alarmed'.discards.trans alarmed.discards, fun p mem k of fresh due => alarmed'.tells _ (overstays p mem k of fresh due),
      fun p mem k d of armed due => alarmed'.tells _ (overdues p mem k d of armed due)⟩
    have event : x.minuteEvent false = (x.rollMinute minute).staleness := rfl
    exact congrArg Host.Outcome.next (event.trans ((congrArg State.staleness walked).trans stale))

end Sys2Proof.Machine

/-! PROOF. Timers that expire: the held and WAIT timers of a door (O52), and the window, overlay and silence timers (O53). -/

namespace Sys2Proof.Machine

set_option Elab.async false

/-! ## The held timer (07 R127) -/

theorem exec_heldTimerExpiry {r : RoomId} {c : Countdown} {s : State} (running : s.phase = .running)
    (opened : (s.door r).state = .opened) (timer : (s.door r).heldTimer = some c) :
    exec (.heldTimerExpiry r) s = .next ((s.advance c.ends).heldExpired r c) := by
  have runs : (s.isRunning && (s.door r).state == .opened) = true := by
    rw [isRunning_of_running running, opened]
    rfl
  show Host.Outcome.next _ = _
  rw [if_pos runs, timer]

/-! ## The WAIT timer (07 R129, R131) -/

theorem exec_waitExpiry {r : RoomId} {c : Countdown} {s : State} (running : s.phase = .running)
    (timer : (s.door r).waitTimer = some c) : exec (.waitExpiry r) s = .next
      ((s.advance c.ends).setDoor r ((s.door r).afterWait (max s.now c.ends) (s.roomSettings r))) := by
  show Host.Outcome.next _ = _
  rw [if_pos (isRunning_of_running running), timer]
  rfl

section
variable {d : Door} {p : RunningProgram} (now : Nat) (room : RoomSettings)

theorem Door.afterWait_of_program (program : d.program = some p) : d.afterWait now room =
    Door.takeSteps now room (adjustedWait p.steps) (p.current + 1) (p.steps.drop p.current) { d with waitTimer := none } := by
  rw [Door.afterWait, program]

/-- Steps without a WAIT run into the end actions. -/
theorem Door.takeSteps_of_noWait (adjusted : Option Nat) (steps : List Step) (noWait : ∀ x ∈ steps, ∀ n, x ≠ .wait n) (k : Nat)
    (d : Door) : ∃ e : Door, Door.takeSteps now room adjusted k steps d = e.endActions now room := by
  induction steps generalizing k d with
  | nil => exact ⟨d, rfl⟩
  | cons x rest ih =>
    obtain ⟨e, taken⟩ := ih (fun y mem => noWait y (List.mem_cons_of_mem _ mem)) (k + 1) (d.act now room x)
    refine ⟨e, Eq.trans ?_ taken⟩
    cases x with
    | wait n => exact absurd rfl (noWait _ List.mem_cons_self n)
    | _ => rfl

theorem Door.lock_shutDown (d : Door) : (d.act now room .lock).shutDown = d.shutDown := by
  cases state : d.state <;> simp [Door.act, Door.shutDown, state]

theorem Door.lock_opened (shut : d.state ≠ .opened) : (d.act now room .lock).state ≠ .opened := by
  cases state : d.state <;> simp_all [Door.act]

end

/-- Settles O52: the held expiry, and the WAIT expiry by the steps that are left. -/
theorem heldAndWaitTimersExpire : Obligations.HeldAndWaitTimersExpire := by
  intro r c s running d
  refine ⟨fun opened timer => exec_heldTimerExpiry running opened timer, fun p timer program => ?_⟩
  have ran := exec_waitExpiry running timer
  rw [Door.afterWait_of_program _ _ program] at ran
  refine ⟨fun n others left other => ?_, fun left shut => ?_, fun noWait => ?_⟩
  · rw [left] at ran
    refine ran.trans (congrArg (fun e => Host.Outcome.next ((s.advance c.ends).setDoor r e)) ?_)
    have units : waitUnits (s.roomSettings r) (adjustedWait p.steps) (p.current + 1) n = n := if_neg other
    rw [Door.takeSteps, units]
    exact congrArg (fun q => { d with program := q, waitTimer := some (countdownFrom (max s.now c.ends) (n * 250)) })
      (congrArg (Option.map _) program)
  · refine ran.trans (congrArg (fun e => Host.Outcome.next ((s.advance c.ends).setDoor r e)) ?_)
    rcases left with none | lock
    · rw [none, Door.takeSteps, Door.endActions_shutDown (d := { d with waitTimer := .none }) _ _ shut]
      rfl
    · rw [lock, Door.takeSteps, Door.takeSteps, Door.endActions_shutDown _ _ (Door.lock_opened (d := { d with waitTimer := none }) _ _ shut),
        Door.lock_shutDown]
      · rfl
      · exact fun n => nofun
  · obtain ⟨e, ended⟩ := Door.takeSteps_of_noWait (max s.now c.ends) (s.roomSettings r) (adjustedWait p.steps) _ noWait
      (p.current + 1) { d with waitTimer := none }
    rw [ended] at ran
    refine ⟨_, ran, rfl, rfl, ?_, Door.endActions_image _ _ e⟩
    rw [Door.endActions_state]
    split
    next => exact nofun
    next other => exact other

/-! ## The windows of the Party Unit (05 R93, R94) -/

theorem exec_partyWindowExpiry {r : RoomId} {y : Party} {s : State} (running : s.phase = .running) (slot : s.slot r = .party y) :
    exec (.partyWindowExpiry r) s = .next ((s.advance y.window.ends).breakSlot r .escortTimeout) := by
  show Host.Outcome.next _ = _
  rw [if_pos (isRunning_of_running running), slot]

theorem exec_leadWindowExpiry_entered {r : RoomId} {l : Lead} {s : State} (running : s.phase = .running)
    (slot : s.slot r = .lead l) (entered : l.kind = .entered) :
    exec (.leadWindowExpiry r) s = .next ((s.advance l.window.ends).setSlot r .empty) := by
  show Host.Outcome.next _ = _
  rw [if_pos (isRunning_of_running running), slot]
  simp only [entered]

theorem exec_leadWindowExpiry_waiting {r : RoomId} {l : Lead} {s : State} (running : s.phase = .running)
    (slot : s.slot r = .lead l) (waiting : l.kind = .waiting) : exec (.leadWindowExpiry r) s = .next
      (((s.advance l.window.ends).setSlot r .empty).issue (((s.advance l.window.ends).setSlot r .empty).leadTimeoutVerdict r l)) := by
  show Host.Outcome.next _ = _
  rw [if_pos (isRunning_of_running running), slot]
  simp only [waiting]

/-- The verdict's test of the time state as the statements write it. -/
theorem decide_stale (t : TimeState) : decide (t = .stale) = (t == .stale) := by cases t <;> rfl

/-- Settles O53: each expiry whole. -/
theorem windowsAndOverlaysExpire : Obligations.WindowsAndOverlaysExpire := by
  intro r s running
  refine ⟨fun y slot some_ => ?_, fun l slot => ?_, fun o overlay => ?_, fun o overlay => ?_, fun c timer => ?_⟩
  · intro t
    let verdicts := y.members.map fun m => s.verdictOfMember r m y.members.length .deny .escortTimeout
    have broken : t.breakSlot r .escortTimeout = { t with
        slots := put s.slots r .empty, rooms := t.roomsShowing r .entry .denied
        reports := s.reports.offerAll (verdicts.map .verdict) } := by
      rw [State.breakSlot_of_party (s := t) slot, State.denyMembers_eq, if_neg some_, Reports.offerVerdicts_eq]
      rfl
    refine ⟨_, (exec_partyWindowExpiry running slot).trans (congrArg Host.Outcome.next broken),
      Reports.offerAll_alarms _ _, Reports.offerAll_answers _ _, fun places => ?_⟩
    rw [Reports.offerAll_of_places (by rw [List.length_map, List.length_map]; exact places), List.map_map]
    rfl
  · intro t
    refine ⟨exec_leadWindowExpiry_entered running slot, fun waiting => ?_⟩
    refine (exec_leadWindowExpiry_waiting running slot waiting).trans (congrArg Host.Outcome.next ?_)
    · rw [State.leadTimeoutVerdict, State.verdict, decide_stale]
      rfl
  · have ran : exec (.overlayExpiry r .entry) s = .next ((s.advance o.timer.ends).setRoom r { s.room r with entryOverlay := none }) := by
      show Host.Outcome.next _ = _
      rw [if_pos (isRunning_of_running running), overlay]
    refine ⟨_, ran, rfl, ?_⟩
    simp only [State.entryImage, State.room, State.setRoom, State.withRooms, look_put_self]
    rw [State.entryBase, State.entryBase]
    simp only [State.room, look_put_self]
    rfl
  · have ran : exec (.overlayExpiry r .exit) s = .next ((s.advance o.timer.ends).setRoom r { s.room r with exitOverlay := none }) := by
      show Host.Outcome.next _ = _
      rw [if_pos (isRunning_of_running running), overlay]
    refine ⟨_, ran, rfl, ?_⟩
    simp only [State.exitImage, State.room, State.setRoom, State.withRooms, look_put_self]
  · have ran : exec .silenceTimerExpiry s = .next
        ((s.advance c.ends).withTrunk (s.trunk.fallSilent (max s.now c.ends))) := by
      show Host.Outcome.next _ = _
      rw [if_pos (isRunning_of_running running), timer]
      rfl
    refine ⟨fun online => ?_, fun silent => ?_⟩
    · rw [TrunkPort.fallSilent, online] at ran
      exact ran
    · have fallen : s.trunk.fallSilent (max s.now c.ends) = { s.trunk with silenceTimer := none } := by
        rw [TrunkPort.fallSilent, silent]
        simp only [silent]
      rw [fallen] at ran
      exact ran

end Sys2Proof.Machine

/-! PROOF. The field line: the rotation and the visit that is sent (O48). -/

namespace Sys2Proof.Machine

set_option Elab.async false

/-! ## The rotation (08 R145) -/

section
variable {n : Nat} {l : List (Fin n)} {b : Fin n} {p : Fin n → Bool}

/-- In a list in ascending order the first element of a test is the least one. -/
theorem find?_of_ascending (ascending : l.Pairwise (· < ·)) :
    l.find? p = some b ↔ b ∈ l ∧ p b = true ∧ ∀ c ∈ l, p c = true → b ≤ c := by
  induction l with
  | nil => simp
  | cons a l ih =>
    obtain ⟨above, ascending⟩ := List.pairwise_cons.mp ascending
    cases test : p a with
    | true =>
      rw [List.find?_cons_of_pos test, Option.some.injEq]
      refine ⟨?_, fun ⟨mem, _, least⟩ => ?_⟩
      · rintro rfl
        refine ⟨List.mem_cons_self, test, fun c mem _ => ?_⟩
        rcases List.mem_cons.mp mem with rfl | mem
        · exact le_refl _
        · exact le_of_lt (above c mem)
      · refine le_antisymm ?_ (least a List.mem_cons_self test)
        rcases List.mem_cons.mp mem with rfl | mem
        · exact le_refl _
        · exact le_of_lt (above b mem)
    | false =>
      have skip : ¬ p a = true := Bool.eq_false_iff.mp test
      rw [List.find?_cons_of_neg skip, ih ascending]
      refine ⟨fun ⟨mem, holds, least⟩ => ⟨List.mem_cons_of_mem _ mem, holds, fun c inList => ?_⟩,
        fun ⟨mem, holds, least⟩ => ⟨?_, holds, fun c inList => least c (List.mem_cons_of_mem _ inList)⟩⟩
      · rcases List.mem_cons.mp inList with rfl | inList
        · exact fun holds => absurd holds skip
        · exact least c inList
      · rcases List.mem_cons.mp mem with rfl | mem
        · exact absurd holds skip
        · exact mem

theorem head?_of_ascending (ascending : l.Pairwise (· < ·)) : l.head? = some b ↔ b ∈ l ∧ ∀ c ∈ l, b ≤ c := by
  have first := find?_of_ascending (b := b) (p := fun _ => true) ascending
  have same : l.find? (fun _ => true) = l.head? := by cases l <;> rfl
  rw [same] at first
  simpa using first

end

theorem nextStation_some (stations : Vector StationSettings 16) (l b : StationId) : nextStation stations (some l) = some b ↔
    (look stations b).enabled = true ∧
    ((l.val < b.val ∧ ∀ c : StationId, (look stations c).enabled = true → l.val < c.val → b.val ≤ c.val) ∨
     ((∀ c : StationId, (look stations c).enabled = true → c.val ≤ l.val) ∧
      ∀ c : StationId, (look stations c).enabled = true → b.val ≤ c.val)) := by
  have ascending : (allStations.filter fun a => (look stations a).enabled).Pairwise (· < ·) :=
    (show allStations.Pairwise (· < ·) by decide).filter _
  have mem (c : StationId) : c ∈ allStations.filter (fun a => (look stations a).enabled) ↔ (look stations c).enabled = true := by
    rw [List.mem_filter, and_iff_right (mem_allStations c)]
  rw [nextStation]
  split
  next a found =>
    obtain ⟨inList, above, least⟩ := (find?_of_ascending ascending).mp found
    have above : l.val < a.val := of_decide_eq_true above
    rw [Option.some.injEq]
    refine ⟨?_, fun ⟨on, choice⟩ => ?_⟩
    · rintro rfl
      exact ⟨(mem a).mp inList, .inl ⟨above, fun c on higher => least c ((mem c).mpr on) (decide_eq_true higher)⟩⟩
    · rcases choice with ⟨higher, lowest⟩ | ⟨noneAbove, -⟩
      · exact le_antisymm (least b ((mem b).mpr on) (decide_eq_true higher)) (lowest a ((mem a).mp inList) above)
      · exact absurd (noneAbove a ((mem a).mp inList)) (Nat.not_le.mpr above)
  next nothing =>
    have noneAbove (c : StationId) (on : (look stations c).enabled = true) : c.val ≤ l.val :=
      Nat.not_lt.mp fun higher => List.find?_eq_none.mp nothing c ((mem c).mpr on) (decide_eq_true higher)
    rw [head?_of_ascending ascending, mem]
    refine ⟨fun ⟨on, least⟩ => ⟨on, .inr ⟨noneAbove, fun c enabled => least c ((mem c).mpr enabled)⟩⟩, fun ⟨on, choice⟩ => ⟨on, ?_⟩⟩
    rcases choice with ⟨higher, -⟩ | ⟨-, least⟩
    · exact absurd (noneAbove b on) (Nat.not_le.mpr higher)
    · exact fun c inList => least c ((mem c).mp inList)

/-! ## The visit (08 R146) -/

section
variable {a : StationId} {items before after : List CarryItem} {i : CarryItem}

theorem ridingPayload_none (none : ∀ j ∈ items, j.station ≠ a) : ridingPayload a items = [] := by
  have nothing : items.find? (fun j => j.station == a) = .none :=
    List.find?_eq_none.mpr fun j mem same => none j mem (eq_of_beq same)
  rw [ridingPayload, nothing]

theorem markRiding_append (none : ∀ j ∈ before, j.station ≠ a) (items : List CarryItem) :
    markRiding a (before ++ items) = before ++ markRiding a items := by
  induction before with
  | nil => rfl
  | cons j before ih =>
    rw [List.cons_append, markRiding, if_neg (none j List.mem_cons_self), ih fun k mem => none k (List.mem_cons_of_mem _ mem)]
    rfl

theorem markRiding_none (none : ∀ j ∈ items, j.station ≠ a) : markRiding a items = items := by
  have marked := markRiding_append none []
  rwa [markRiding, List.append_nil] at marked

/-- The oldest item of the station rides. -/
theorem ridingPayload_oldest (is : i.station = a) (none : ∀ j ∈ before, j.station ≠ a) :
    ridingPayload a (before ++ i :: after) = i.payload := by
  have oldest : (before ++ i :: after).find? (fun j => j.station == a) = some i := by
    have others : before.find? (fun j => j.station == a) = .none :=
      List.find?_eq_none.mpr fun j mem same => none j mem (eq_of_beq same)
    have here : (i.station == a) = true := beq_iff_eq.mpr is
    rw [List.find?_append, others, Option.none_or, List.find?_cons_of_pos (p := fun j : CarryItem => j.station == a) here]
  rw [ridingPayload, oldest]

theorem markRiding_oldest (is : i.station = a) (none : ∀ j ∈ before, j.station ≠ a) :
    markRiding a (before ++ i :: after) = before ++ { i with riding := true } :: after := by
  rw [markRiding_append none, markRiding, if_pos is]

end

theorem exec_visitSend {s : State} {a : StationId} {moment : Nat} (running : s.phase = .running) (free : s.field.visit = none)
    (chosen : s.field.chosen = some a) : exec (.visitSend moment) s = .next ((s.advance moment).sendVisit a) := by
  have may : (s.isRunning && s.field.visit.isNone) = true := by
    rw [isRunning_of_running running, free]
    rfl
  show Host.Outcome.next _ = _
  rw [if_pos may, chosen]

theorem exec_visitSend_idle {s : State} {moment : Nat} (idle : s.field.visit ≠ none ∨ s.field.chosen = none) :
    exec (.visitSend moment) s = .next s := by
  show Host.Outcome.next _ = _
  rcases idle with busy | unchosen
  · have not_ : ¬ (s.isRunning && s.field.visit.isNone) = true := by
      rw [Bool.and_eq_true, Option.isNone_iff_eq_none]
      exact fun both => busy both.2
    rw [if_neg not_]
  · rw [unchosen]
    exact congrArg Host.Outcome.next (ite_self s)

theorem State.visitImage_eq {s : State} {address image : Nat}
    (is : (∃ r, s.placeOf address = some (r, .lockDriver) ∧ image = outputByte (s.door r).image) ∨
       (∃ r, s.placeOf address = some (r, .entryReader) ∧ image = (s.entryImage r).code) ∨
       (∃ r, s.placeOf address = some (r, .exitReader) ∧ image = (s.exitImage r).code) ∨
       (s.placeOf address = none ∧ image = Indication.code .idle)) : s.visitImage address = image := by
  rcases is with ⟨r, place, rfl⟩ | ⟨r, place, rfl⟩ | ⟨r, place, rfl⟩ | ⟨place, rfl⟩ <;> rw [State.visitImage, place]

/-- Settles O48: the visit by its image and its item, and the rotation by the least enabled address. -/
theorem visitCarriesImageAndItem : Obligations.VisitCarriesImageAndItem := by
  refine ⟨fun moment a s running free chosen => ?_, fun moment s => exec_visitSend_idle, nextStation_some⟩
  intro sent image is
  have ran := exec_visitSend (moment := moment) running free chosen
  have imaged : (s.advance moment).visitImage (fieldAddress a) = image := State.visitImage_eq (s := s) is
  rw [State.sendVisit, imaged] at ran
  have carried : (s.advance moment).field.carryDown = s.field.carryDown := rfl
  refine ⟨fun none => ?_, fun before i after queue station first => ?_⟩
  · rw [carried, ridingPayload_none none, markRiding_none none] at ran
    exact ran
  · rw [carried, queue, ridingPayload_oldest station first, markRiding_oldest station first] at ran
    exact ran

end Sys2Proof.Machine

/-! PROOF. The payload of a station's reply: what its bytes spell, and that nothing else is read from them (12 R187, 08 R149). -/

namespace Sys2Proof.Machine

set_option Elab.async false

/-! ## Bytes and the numbers they spell -/

theorem foldl_bytes (bytes : List Byte) (acc : Nat) :
    bytes.foldl (fun a (b : Byte) => a * 256 + b.toNat) acc = acc * 256 ^ bytes.length + numberOf bytes := by
  induction bytes generalizing acc with
  | nil => simp [numberOf]
  | cons b bytes ih =>
    rw [numberOf, List.foldl_cons, List.foldl_cons, ih, ih, List.length_cons]
    ring

theorem numberOf_cons (b : Byte) (bytes : List Byte) :
    numberOf (b :: bytes) = b.toNat * 256 ^ bytes.length + numberOf bytes := by
  rw [numberOf, List.foldl_cons, foldl_bytes]
  ring

/-- Bytes of one length that spell one number are the same. -/
theorem numberOf_injective {l m : List Byte} (length : l.length = m.length) (same : numberOf l = numberOf m) : l = m := by
  induction l generalizing m with
  | nil => exact (List.length_eq_zero_iff.mp length.symm).symm
  | cons a l ih =>
    cases m with
    | nil => cases length
    | cons b m =>
      have lengths : l.length = m.length := Nat.succ.inj length
      rw [numberOf_cons, numberOf_cons, lengths] at same
      have lowL := numberOf_lt l
      have lowM := numberOf_lt m
      rw [lengths] at lowL
      have high : a.toNat = b.toNat := by
        have positive : 0 < 256 ^ m.length := Nat.pow_pos (by decide)
        have divided := congrArg (· / 256 ^ m.length) same
        simpa only [Nat.mul_comm _ (256 ^ m.length), Nat.mul_add_div positive, Nat.div_eq_of_lt lowL, Nat.div_eq_of_lt lowM, Nat.add_zero] using divided
      have rest : l = m := ih lengths (by rw [high] at same; exact Nat.add_left_cancel same)
      rw [rest, BitVec.eq_of_toNat_eq high]

theorem bytesOf_numberOf (l : List Byte) : bytesOf l.length (numberOf l) = l :=
  numberOf_injective (bytesOf_length _ _) (numberOf_bytesOf (numberOf_lt l))

/-- The fields that were read are those that stand there, high byte first. -/
theorem readFields_ok {sizes : List Nat} {p : Nat} {bytes rest : List Byte} {values : List Nat}
    (read : readFields p sizes bytes = .ok (values, rest)) :
    values.length = sizes.length ∧ bytes = written (sizes.zip values) ++ rest ∧ fit (sizes.zip values) := by
  induction sizes generalizing p bytes values with
  | nil =>
    cases read
    exact ⟨rfl, rfl, fit_nil⟩
  | cons size sizes ih =>
    rw [readFields] at read
    by_cases short : bytes.length < size
    · rw [if_pos short] at read
      cases read
    · rw [if_neg short] at read
      cases others : readFields (p + 1) sizes (bytes.drop size) with
      | error q =>
        rw [others] at read
        cases read
      | ok got =>
        obtain ⟨values', rest'⟩ := got
        rw [others] at read
        cases read
        obtain ⟨lengths, spelled, fits⟩ := ih others
        have size_ : (bytes.take size).length = size := by
          rw [List.length_take]
          omega
        have first : bytesOf size (numberOf (bytes.take size)) = bytes.take size := by
          have spelled := bytesOf_numberOf (bytes.take size)
          rwa [size_] at spelled
        have low := numberOf_lt (bytes.take size)
        rw [size_] at low
        refine ⟨congrArg (· + 1) lengths, ?_, fit_cons.mpr ⟨low, fits⟩⟩
        rw [List.zip_cons_cons, written, List.flatMap_cons, first, List.append_assoc]
        exact (List.take_append_drop size bytes).symm.trans (congrArg (bytes.take size ++ ·) spelled)

/-! ## The carry-up part -/

/-- The carry-up part of a reply, absent where the payload is empty. -/
def carryTail (up : List Byte) : List Byte := if up = [] then [0] else 1 :: BitVec.ofNat 8 up.length :: up

/-- What a reply carries up. -/
def carriedUp (up : List Byte) : Option (List Byte) := if up = [] then none else some up

theorem readCarryUp_tail {up : List Byte} (short : up.length ≤ 160) : readCarryUp (carryTail up) = some (carriedUp up) := by
  cases up with
  | nil => rfl
  | cons b up =>
    have length : (BitVec.ofNat 8 (b :: up).length).toNat = (b :: up).length := by
      rw [BitVec.toNat_ofNat, Nat.mod_eq_of_lt (by omega)]
    have good : ((1 : Byte).toNat = 1 && within 1 (BitVec.ofNat 8 (b :: up).length).toNat Config.carryMax
        && (b :: up).length == (BitVec.ofNat 8 (b :: up).length).toNat) = true := by
      rw [length]
      simp [within, Config.carryMax]
      simpa using short
    exact if_pos good

theorem readCarryUp_some {l : List Byte} {u : Option (List Byte)} (read : readCarryUp l = some u) :
    ∃ up, up.length ≤ 160 ∧ l = carryTail up ∧ u = carriedUp up := by
  match l with
  | [] => cases read
  | [flag] =>
    rw [readCarryUp] at read
    split at read
    next zero =>
      cases read
      exact ⟨[], Nat.zero_le _, by rw [BitVec.eq_of_toNat_eq (y := 0) zero]; rfl, rfl⟩
    next => cases read
  | flag :: length :: payload =>
    rw [readCarryUp] at read
    split at read
    next good =>
      cases read
      simp only [Bool.and_eq_true, decide_eq_true_eq, within, beq_iff_eq, Config.carryMax] at good
      obtain ⟨⟨one, low, high⟩, fills⟩ := good
      have some_ : payload ≠ [] := fun none => by
        rw [none, List.length_nil] at fills
        omega
      refine ⟨payload, fills ▸ of_decide_eq_true high, ?_, (if_neg some_).symm⟩
      have byte : BitVec.ofNat 8 payload.length = length := by
        rw [fills, BitVec.ofNat_toNat, BitVec.setWidth_eq]
      rw [carryTail, if_neg some_, byte, BitVec.eq_of_toNat_eq (y := 1) one]
    next => cases read

/-! ## The body -/

/-- The bytes of a reply's body. -/
def ReplyBody.bytes : ReplyBody → List Byte
  | .nothing => [0]
  | .presentation credential level intent =>
    [1] ++ bytesOf 4 credential ++ bytesOf 1 level ++ bytesOf 1 (yesNo (intent == .checkIn))
  | .events list => [2] ++ bytesOf 1 list.length ++ (list.map fun e => bytesOf 1 e.code).flatten

/-- The ranges of a body's fields. -/
def ReplyBody.inRange : ReplyBody → Prop
  | .nothing => True
  | .presentation credential level _ => credential < 4294967296 ∧ level ≤ 15
  | .events list => list.length ≤ 4

theorem code_of_driverEventOfCode {n : Nat} {e : DriverEvent} (is : driverEventOfCode n = some e) : n = e.code := by
  match n with
  | 0 | 1 | 2 | 3 | 4 => cases is; rfl
  | n + 5 => cases is

/-- The event list's bytes, one for each event. -/
theorem eventBytes (list : List DriverEvent) :
    (list.map fun e => bytesOf 1 e.code).flatten = list.map fun e => BitVec.ofNat 8 e.code := by
  induction list with
  | nil => rfl
  | cons e list ih =>
    rw [List.map_cons, List.flatten_cons, ih]
    cases e <;> rfl

theorem eventBytes_read (list : List DriverEvent) :
    (list.map fun e => (BitVec.ofNat 8 e.code : Byte)).map (fun b => driverEventOfCode b.toNat) = list.map some := by
  rw [List.map_map]
  exact List.map_congr_left fun e _ => by cases e <;> rfl

theorem eventBytes_of_codes {l : List Byte} (all : (l.map fun b => driverEventOfCode b.toNat).any Option.isNone = false) :
    l = ((l.map fun b => driverEventOfCode b.toNat).filterMap id).map fun e => BitVec.ofNat 8 e.code := by
  induction l with
  | nil => rfl
  | cons b l ih =>
    rw [List.map_cons, List.any_cons, Bool.or_eq_false_iff] at all
    obtain ⟨here, rest⟩ := all
    obtain ⟨e, is⟩ := Option.isSome_iff_exists.mp (Option.isNone_eq_false_iff.mp here)
    have byte : BitVec.ofNat 8 e.code = b := by
      rw [← code_of_driverEventOfCode is, BitVec.ofNat_toNat, BitVec.setWidth_eq]
    rw [List.map_cons, is, List.filterMap_cons_some (f := id) rfl, List.map_cons, byte, ← ih rest]

/-- A payload that spells a body and a carry-up part is read as such. -/
theorem readReply_bytes {body : ReplyBody} (range : body.inRange) {up : List Byte} (short : up.length ≤ 160) :
    readReply (body.bytes ++ carryTail up) = some { body := body, carryUp := carriedUp up } := by
  have tail := readCarryUp_tail short
  cases body with
  | nothing => exact congrArg (Option.map fun u => ({ body := .nothing, carryUp := u } : FieldReply)) tail
  | presentation credential level intent =>
    obtain ⟨small, low⟩ := range
    let fields := [(4, credential), (1, level), (1, yesNo (intent == .checkIn))]
    have fits : fit fields := fit_cons.mpr ⟨small, fit_cons.mpr ⟨show level < 256 by omega, fit_cons.mpr
      ⟨by cases intent <;> decide, fit_nil⟩⟩⟩
    have line : (ReplyBody.presentation credential level intent).bytes ++ carryTail up = 1 :: (written fields ++ carryTail up) := by
      simp [ReplyBody.bytes, written, fields]
    have read := readFields_written fits 1 (carryTail up)
    have good : (decide (level ≤ 15) && decide (yesNo (intent == .checkIn) ≤ 1)) = true := by
      rw [decide_eq_true low]
      cases intent <;> rfl
    have same : (if yesNo (intent == .checkIn) = 0 then Intent.pass else .checkIn) = intent := by cases intent <;> rfl
    rw [line]
    unfold readReply
    simp only [show (1 : Byte).toNat = 1 from rfl]
    rw [show readFields 1 [4, 1, 1] (written fields ++ carryTail up)
      = .ok ([credential, level, yesNo (intent == .checkIn)], carryTail up) from read]
    simp only [if_pos good, tail, same, Option.map_some]
  | events list =>
    have few : list.length ≤ 4 := range
    have count : (BitVec.ofNat 8 list.length).toNat = list.length := by
      rw [BitVec.toNat_ofNat, Nat.mod_eq_of_lt (by omega)]
    let codes : List Byte := list.map fun e => BitVec.ofNat 8 e.code
    have line : (ReplyBody.events list).bytes ++ carryTail up = 2 :: BitVec.ofNat 8 list.length :: (codes ++ carryTail up) := by
      rw [ReplyBody.bytes, eventBytes, show bytesOf 1 list.length = [BitVec.ofNat 8 (list.length / 256 ^ 0)] from rfl,
        Nat.pow_zero, Nat.div_one]
      rfl
    have length : codes.length = list.length := List.length_map _
    have enough : ¬ (decide (4 < list.length) || decide ((codes ++ carryTail up).length < list.length)) = true := by
      rw [List.length_append, length]
      simp
      exact few
    have known : ¬ (list.map some).any Option.isNone = true := by simp
    rw [line]
    unfold readReply
    simp only [show (2 : Byte).toNat = 2 from rfl, count, if_neg enough]
    rw [take_append_length _ length, drop_append_length _ length, eventBytes_read, if_neg known, tail]
    simp [List.filterMap_map]

/-- What is read as a reply spells it. -/
theorem readReply_some {payload : List Byte} {reply : FieldReply} (read : readReply payload = some reply) :
    reply.body.inRange ∧ ∃ up, up.length ≤ 160 ∧ payload = reply.body.bytes ++ carryTail up := by
  cases payload with
  | nil => cases read
  | cons kind rest =>
    rw [readReply.eq_def] at read
    simp only at read
    have is (k : Nat) (small : k < 256) (eq : kind.toNat = k) : kind = BitVec.ofNat 8 k :=
      BitVec.eq_of_toNat_eq (by rw [eq, BitVec.toNat_ofNat, Nat.mod_eq_of_lt small])
    split at read
    next eq =>
      obtain ⟨u, tail, rfl⟩ := Option.map_eq_some_iff.mp read
      obtain ⟨up, short, rfl, -⟩ := readCarryUp_some tail
      exact ⟨trivial, up, short, by rw [is 0 (by decide) eq]; rfl⟩
    next eq =>
      split at read
      next credential level intent rest' fields =>
        split at read
        next good =>
          obtain ⟨u, tail, rfl⟩ := Option.map_eq_some_iff.mp read
          obtain ⟨up, short, rfl, -⟩ := readCarryUp_some tail
          obtain ⟨-, spelled, fits⟩ := readFields_ok fields
          obtain ⟨small, -⟩ := fit_cons.mp fits
          rw [Bool.and_eq_true, decide_eq_true_iff, decide_eq_true_iff] at good
          obtain ⟨low, bit⟩ := good
          have same : yesNo ((if intent = 0 then Intent.pass else .checkIn) == .checkIn) = intent := by
            rcases Nat.le_one_iff_eq_zero_or_eq_one.mp bit with rfl | rfl <;> rfl
          refine ⟨⟨small, low⟩, up, short, ?_⟩
          rw [is 1 (by decide) eq, spelled, ReplyBody.bytes, same]
          simp [written]
        next => cases read
      next => cases read
    next eq =>
      split at read
      next => cases read
      next count rest' =>
        split at read
        next => cases read
        next enough =>
          split at read
          next => cases read
          next known =>
            obtain ⟨u, tail, rfl⟩ := Option.map_eq_some_iff.mp read
            obtain ⟨up, short, after, -⟩ := readCarryUp_some tail
            rw [Bool.or_eq_true, decide_eq_true_iff, decide_eq_true_iff, not_or, Nat.not_lt, Nat.not_lt] at enough
            obtain ⟨few, long⟩ := enough
            have bytes := eventBytes_of_codes (Bool.eq_false_iff.mpr known)
            have length := congrArg List.length bytes
            rw [List.length_take, Nat.min_eq_left long, List.length_map] at length
            refine ⟨show _ ≤ 4 from length ▸ few, up, short, ?_⟩
            have first : bytesOf 1 count.toNat = [count] := by
              rw [show bytesOf 1 count.toNat = [BitVec.ofNat 8 (count.toNat / 256 ^ 0)] from rfl, Nat.pow_zero, Nat.div_one,
                BitVec.ofNat_toNat, BitVec.setWidth_eq]
            rw [is 2 (by decide) eq, ReplyBody.bytes, eventBytes, ← bytes, ← length, first, ← after]
            simp
    next => cases read

/-- A reply that is read and fits the kind of its station is well formed. -/
theorem wellFormedReply_of_read {kind : StationKind} {payload : List Byte} {reply : FieldReply}
    (read : readReply payload = some reply) (fits : bodyFits kind reply.body = true) : wellFormedReply kind payload := by
  obtain ⟨range, up, short, spelled⟩ := readReply_some read
  refine ⟨reply.body.bytes, up, short, ?_, spelled⟩
  obtain ⟨body, carry⟩ := reply
  cases body with
  | nothing => exact .inl rfl
  | presentation credential level intent =>
    obtain ⟨small, low⟩ := range
    cases kind with
    | lockDriver => cases fits
    | reader => exact .inr (.inl ⟨rfl, credential, level, intent == .checkIn, small, low, rfl⟩)
  | events list =>
    cases kind with
    | reader => cases fits
    | lockDriver => exact .inr (.inr ⟨rfl, list, range, rfl⟩)

end Sys2Proof.Machine

/-! PROOF. Visits that end as a missed or a bad reply (O49). -/

namespace Sys2Proof.Machine

set_option Elab.async false

/-! ## What the field line makes of a frame (08 R147) -/

/-- The frame as its four head bytes hold it. -/
def Frame.inBytes (f : Frame) : Frame :=
  { f with destination := f.destination % 256, source := f.source % 256, kind := f.kind % 256 }

theorem receive_whole {f : Frame} (short : f.payload.length ≤ 200) : receive f.bytes = .whole f.inBytes := by
  have read := receive_framed [] [] (bytesOf 2 (crc f.covered).toNat) f.payload
    (destination := BitVec.ofNat 8 f.destination) (source := BitVec.ofNat 8 f.source) (kind := BitVec.ofNat 8 f.kind) (by simp)
    short (bytesOf_length 2 _)
  rw [List.nil_append, List.append_nil] at read
  refine (read.trans (if_pos (numberOf_bytesOf_crc _))).trans ?_
  simp only [BitVec.toNat_ofNat]
  rfl

/-- A frame of which bytes are wanting has begun and is not ended. -/
theorem receive_begun {f : Frame} {n : Nat} (short : f.payload.length ≤ 200) (some_ : 1 ≤ n) (less : n < f.bytes.length) :
    receive (f.bytes.take n) = .incomplete := by
  let tail := f.payload ++ bytesOf 2 (crc f.covered).toNat
  have bytes : f.bytes = startByte :: BitVec.ofNat 8 f.destination :: BitVec.ofNat 8 f.source :: BitVec.ofNat 8 f.kind
      :: BitVec.ofNat 8 f.payload.length :: tail := rfl
  have size : tail.length = f.payload.length + 2 := by simp [tail]
  have length : (BitVec.ofNat 8 f.payload.length).toNat = f.payload.length := by
    rw [BitVec.toNat_ofNat, Nat.mod_eq_of_lt (by omega)]
  match n with
  | 0 => cases some_
  | 1 | 2 | 3 | 4 => rw [bytes]; rfl
  | n + 5 =>
    have rest : n < f.payload.length + 2 := by
      rw [bytes] at less
      simp only [List.length_cons, size] at less
      omega
    have line : f.bytes.take (n + 5) = [] ++ startByte :: BitVec.ofNat 8 f.destination :: BitVec.ofNat 8 f.source
        :: BitVec.ofNat 8 f.kind :: BitVec.ofNat 8 f.payload.length :: tail.take n := by rw [bytes]; rfl
    rw [line, receive, dropWhile_startByte (by simp)]
    simp only [length, Config.payloadMax]
    rw [if_neg (by omega), if_pos]
    rw [List.length_take]
    omega

section
variable {a : StationId} {kind : StationKind} {bytes : List Byte}

variable {f : Frame}

theorem judgeReply_otherDestination (read : receive bytes = .whole f) (other : f.destination ≠ 0) :
    judgeReply a kind bytes = .ignored := by
  rw [judgeReply, read]
  exact if_pos other

theorem judgeReply_stranger (read : receive bytes = .whole f) (toPart : f.destination = 0)
    (other : f.source ≠ fieldAddress a ∨ f.kind ≠ kindReply) : judgeReply a kind bytes = .bad := by
  rw [judgeReply, read]
  exact (if_neg (not_not.mpr toPart)).trans (if_pos other)

theorem judgeReply_malformed (read : receive bytes = .whole f) (toPart : f.destination = 0)
    (known : ¬ (f.source ≠ fieldAddress a ∨ f.kind ≠ kindReply)) (malformed : readReply f.payload = none) :
    judgeReply a kind bytes = .bad := by
  rw [judgeReply, read]
  refine (if_neg (not_not.mpr toPart)).trans ((if_neg known).trans ?_)
  rw [malformed]

theorem judgeReply_reply (read : receive bytes = .whole f) (toPart : f.destination = 0)
    (known : ¬ (f.source ≠ fieldAddress a ∨ f.kind ≠ kindReply)) {reply : FieldReply} (spelled : readReply f.payload = some reply) :
    judgeReply a kind bytes = if bodyFits kind reply.body then .good reply else .bad := by
  rw [judgeReply, read]
  refine (if_neg (not_not.mpr toPart)).trans ((if_neg known).trans ?_)
  rw [spelled]

/-- A frame received whole is never unfinished. -/
theorem judgeReply_finished (read : receive bytes = .whole f) : judgeReply a kind bytes ≠ .unfinished := by
  by_cases toPart : f.destination = 0
  · by_cases other : f.source ≠ fieldAddress a ∨ f.kind ≠ kindReply
    · rw [judgeReply_stranger read toPart other]
      exact nofun
    · cases spelled : readReply f.payload with
      | none =>
        rw [judgeReply_malformed read toPart other spelled]
        exact nofun
      | some reply =>
        rw [judgeReply_reply read toPart other spelled]
        split <;> exact nofun
  · rw [judgeReply_otherDestination read toPart]
    exact nofun

theorem judgeReply_bad (bad : badFieldFrame a kind bytes) : judgeReply a kind bytes = .bad := by
  rcases bad with ⟨destination, source, code, length, long, rfl⟩ | ⟨f, destination, source, code, short, how⟩
  · have read : receive [0xA7, destination, source, code, length] = .tooLong := if_pos long
    rw [judgeReply, read]
  · rcases how with ⟨sent, two, other, rfl⟩ | ⟨toPart, how, rfl⟩
    · have read := receive_framed [] [] sent f.payload (destination := BitVec.ofNat 8 f.destination)
        (source := BitVec.ofNat 8 f.source) (kind := BitVec.ofNat 8 f.kind) (by simp) short two
      rw [List.nil_append, List.append_nil] at read
      have differs : numberOf sent ≠ (crc f.covered).toNat := fun same =>
        other (numberOf_injective (two.trans (bytesOf_length 2 _).symm) (same.trans (numberOf_bytesOf_crc _).symm))
      have wrong : receive ([0xA7] ++ f.covered ++ sent) = .badCrc := read.trans (if_neg differs)
      rw [judgeReply, wrong]
    · have read := receive_bytes destination source code short
      by_cases other : f.source ≠ fieldAddress a ∨ f.kind ≠ kindReply
      · exact judgeReply_stranger read toPart other
      · have malformed : ¬ wellFormedReply kind f.payload := by
          rcases how with source | code | malformed
          · exact absurd (.inl source) other
          · exact absurd (.inr code) other
          · exact malformed
        cases spelled : readReply f.payload with
        | none => exact judgeReply_malformed read toPart other spelled
        | some reply =>
          rw [judgeReply_reply read toPart other spelled, if_neg fun fits => malformed (wellFormedReply_of_read spelled fits)]

theorem judgeReply_ignored (low : 1 ≤ f.destination) (high : f.destination < 256) (short : f.payload.length ≤ 200) :
    judgeReply a kind f.bytes = .ignored := by
  have other : f.inBytes.destination ≠ 0 := by
    rw [Frame.inBytes, Nat.mod_eq_of_lt high]
    exact Nat.one_le_iff_ne_zero.mp low
  exact judgeReply_otherDestination (receive_whole short) other

end

/-! ## How a visit ends (08 R147) -/

section
variable {s : State} {v : Visit} {moment began : Nat} {bytes : List Byte}

theorem exec_visitTimeout (running : s.phase = .running) (visit : s.field.visit = some v) :
    exec .visitTimeout s = .next ((s.advance v.timeout.ends).visitFailed v.station .noReply) := by
  show Host.Outcome.next _ = _
  rw [if_pos (isRunning_of_running running), visit]
  rfl

theorem exec_fieldGapAbandon (running : s.phase = .running) (visit : s.field.visit = some v)
    (begun : receive bytes = .incomplete) :
    exec (.fieldGapAbandon moment bytes) s = .next ((s.advance moment).visitFailed v.station .badReply) := by
  show Host.Outcome.next _ = _
  rw [if_pos (isRunning_of_running running), visit, begun]

theorem exec_fieldFrame (running : s.phase = .running) (visit : s.field.visit = some v) (inTime : began ≤ v.timeout.ends) :
    exec (.fieldFrame moment bytes began) s
      = .next (s.frameEnded v moment (judgeReply v.station (s.stationSettings v.station).kind bytes)) := by
  show Host.Outcome.next _ = _
  rw [if_pos (isRunning_of_running running), visit]
  exact congrArg Host.Outcome.next (if_pos (.inr inTime))

/-- A frame that begins late ends the visit as missed. -/
theorem exec_fieldFrame_late (running : s.phase = .running) (visit : s.field.visit = some v) (late : v.timeout.ends < began)
    (finished : judgeReply v.station (s.stationSettings v.station).kind bytes ≠ .unfinished) :
    exec (.fieldFrame moment bytes began) s = .next ((s.advance v.timeout.ends).visitFailed v.station .noReply) := by
  show Host.Outcome.next _ = _
  rw [if_pos (isRunning_of_running running), visit]
  refine congrArg Host.Outcome.next (if_neg ?_)
  rintro (unfinished | inTime)
  · exact finished unfinished
  · exact Nat.not_le.mpr late inTime

end

/-! ## The miss counted (08 R150) -/

section
variable {s : State} {a : StationId} {cause : CarryCause}

theorem State.driverRoom_eq_some {r : RoomId} (place : s.placeOf (fieldAddress a) = some (r, .lockDriver)) :
    s.driverRoom (fieldAddress a) = some r := by
  rw [State.driverRoom, place]

theorem State.placeOf_of_driverRoom {address : Nat} {r : RoomId} (room : s.driverRoom address = some r) :
    s.placeOf address = some (r, .lockDriver) := by
  rw [State.driverRoom] at room
  split at room
  next q place =>
    cases room
    exact place
  next => cases room

theorem State.tellDoor_some {notice : State → RoomId → State} {r : RoomId}
    (place : s.placeOf (fieldAddress a) = some (r, .lockDriver)) : s.tellDoor a notice = notice s r := by
  rw [State.tellDoor, State.driverRoom_eq_some place]

theorem State.driverOffline_faults {r : RoomId} (sound : (s.door r).state ≠ .fault ∧ (s.door r).state ≠ .faultHold) :
    s.driverOffline r = s.doorFaulted r .offline := by
  obtain ⟨noFault, noHold⟩ := sound
  rw [State.driverOffline, ← State.enterFault_eq]
  split
  next is => exact absurd is noFault
  next is => exact absurd is noHold
  next => rfl

theorem State.driverOffline_skips {r : RoomId} (broken : (s.door r).state = .fault ∨ (s.door r).state = .faultHold) :
    s.driverOffline r = s := by
  rcases broken with is | is <;> rw [State.driverOffline, is]

/-- A door that a notice of OFFLINE does not fault, because there is none or it is in a fault already. -/
theorem State.tellDoor_driverOffline_skips
    (none : ∀ r, s.placeOf (fieldAddress a) = some (r, .lockDriver) → (s.door r).state = .fault ∨ (s.door r).state = .faultHold) :
    s.tellDoor a State.driverOffline = s := by
  rw [State.tellDoor]
  split
  next r room => exact State.driverOffline_skips (none r (State.placeOf_of_driverRoom room))
  next => rfl

theorem State.countMiss_below (below : (s.station a).missed < 2) :
    s.countMiss a cause = s.setStation a { s.station a with missed := (s.station a).missed + 1 } :=
  if_pos (show (s.station a).missed + 1 < 3 by omega)

theorem State.countMiss_above (above : 3 ≤ (s.station a).missed) : s.countMiss a cause = s :=
  (if_neg (show ¬ (s.station a).missed + 1 < 3 by omega)).trans (if_neg (show ¬ (s.station a).missed + 1 = 3 by omega))

theorem State.countMiss_third (third : (s.station a).missed = 2) : s.countMiss a cause =
    (s.setStation a { online := .offline, missed := 3 }).stationLost a (s.station a).online cause :=
  (if_neg (show ¬ (s.station a).missed + 1 < 3 by omega)).trans (if_pos (show (s.station a).missed + 1 = 3 by omega))

end

/-! ## The riding item (08 R152) -/

section
variable {y : State} {cause : CarryCause}

theorem State.failRiding_none (none : ∀ i ∈ y.field.carryDown, i.riding = false) : y.failRiding cause = y := by
  have nothing : y.field.carryDown.find? CarryItem.riding = .none :=
    List.find?_eq_none.mpr fun i mem => Bool.eq_false_iff.mp (none i mem)
  rw [State.failRiding, nothing]

theorem State.failRiding_some {before after : List CarryItem} {i : CarryItem} (queue : y.field.carryDown = before ++ i :: after)
    (rides : i.riding = true) (others : ∀ j ∈ before ++ after, j.riding = false) : y.failRiding cause =
      { y with
        field := { y.field with carryDown := before ++ after }
        reports := y.reports.offerRoutine
          (.carryFailed y.clock.minute y.clock.second (fieldAddress i.station) i.tag i.payload.length cause) } := by
  have first : y.field.carryDown.find? CarryItem.riding = some i := by
    have none : before.find? CarryItem.riding = .none :=
      List.find?_eq_none.mpr fun j mem => Bool.eq_false_iff.mp (others j (List.mem_append_left _ mem))
    rw [queue, List.find?_append, none, Option.none_or, List.find?_cons_of_pos rides]
  have left : (y.field.carryDown.filter fun i => !i.riding) = before ++ after := by
    have kept (l : List CarryItem) (all : ∀ j ∈ l, j.riding = false) : (l.filter fun i => !i.riding) = l :=
      List.filter_eq_self.mpr fun j mem => by rw [all j mem]; rfl
    rw [queue, List.filter_append, List.filter_cons_of_neg (by rw [rides]; exact Bool.false_ne_true),
      kept before fun j mem => others j (List.mem_append_left _ mem), kept after fun j mem => others j (List.mem_append_right _ mem)]
  rw [State.failRiding, first]
  show (y.deliverCarry).carryFailed i cause = _
  rw [State.deliverCarry, left]
  rfl

end

/-- Settles O49: each way to end the visit gives the same failure of it, and that is counted, told and carried out. -/
theorem missedVisitsCount : Obligations.MissedVisitsCount := by
  intro c moment cause v s running visit how left told carried a u counted ended
  let x : State := s.advance moment
  have ran : exec c s = .next (x.visitFailed a cause) := by
    rcases how with ⟨rfl, rfl, rfl⟩ | ⟨f, n, short, some_, less, rfl, rfl⟩ | ⟨bytes, began, bad, inTime, rfl, rfl⟩ |
      ⟨f, began, low, high, short, inTime, expired, rfl, rfl⟩ | ⟨bytes, began, last, which, late, rfl, rfl, rfl⟩
    · exact exec_visitTimeout running visit
    · exact exec_fieldGapAbandon running visit (receive_begun short some_ less)
    · rw [exec_fieldFrame running visit inTime, judgeReply_bad bad]
      rfl
    · rw [exec_fieldFrame running visit inTime, judgeReply_ignored low high short]
      exact congrArg Host.Outcome.next (if_pos (decide_eq_true expired))
    · refine exec_fieldFrame_late running visit late ?_
      rcases which with bad | ⟨f, -, short, rfl⟩
      · rw [judgeReply_bad bad]
        exact nofun
      · exact judgeReply_finished (receive_whole short)
  have done_ (y : State) (field : y.field = s.field) (clock : y.clock = s.clock) (counts : x.countMiss a cause = y) : ended y := by
    have failed : y.failRiding cause = { y with
        field := { y.field with carryDown := left }, reports := told y.reports } := by
      rcases carried with ⟨none, rfl, rfl⟩ | ⟨before, i, after, queue, rides, others, rfl, rfl⟩
      · rw [State.failRiding_none (field ▸ none), ← field]
        rfl
      · rw [State.failRiding_some (field ▸ queue) rides others, clock]
    have settings : x.visitFailed a cause = (y.failRiding cause).endVisit := by rw [State.visitFailed, counts]
    rw [failed] at settings
    exact ran.trans (congrArg Host.Outcome.next settings)
  refine ⟨fun below => ?_, fun above => ?_, fun third => ?_⟩
  · exact done_ _ rfl rfl (State.countMiss_below (s := x) below)
  · refine done_ _ rfl rfl ((State.countMiss_above (s := x) above).trans ?_)
    show x = { x with stations := put s.stations a (look s.stations a) }
    rw [put_look]
    rfl
  · intro lost faults
    have count : x.countMiss a cause = lost.tellDoor a State.driverOffline := State.countMiss_third (s := x) third
    refine ⟨fun none => ?_, fun r fault => ?_⟩
    · refine done_ _ rfl rfl (count.trans (State.tellDoor_driverOffline_skips fun r place => ?_))
      by_contra sound
      rw [not_or] at sound
      exact none r ⟨place, sound⟩
    · obtain ⟨place, sound⟩ := fault
      exact done_ _ rfl rfl (count.trans ((State.tellDoor_some (s := lost) place).trans
        (State.driverOffline_faults (s := lost) sound)))

end Sys2Proof.Machine

/-! PROOF. Good replies, and frames that the field line passes over (O50). -/

namespace Sys2Proof.Machine

set_option Elab.async false

/-! ## A good reply (08 R148, R149, R153) -/

theorem fieldAddress_lt (a : StationId) : fieldAddress a < 256 := by
  revert a
  decide

section
variable {a : StationId} {kind : StationKind} {body : ReplyBody} {up : List Byte}

theorem ReplyBody.bytes_length (range : body.inRange) : body.bytes.length ≤ 7 := by
  cases body with
  | nothing => decide
  | presentation credential level intent => simp [ReplyBody.bytes]
  | events list =>
    have few : list.length ≤ 4 := range
    rw [ReplyBody.bytes, eventBytes]
    simp
    omega

theorem carryTail_length (short : up.length ≤ 160) : (carryTail up).length ≤ 162 := by
  rw [carryTail]
  split
  · decide
  · rw [List.length_cons, List.length_cons]
    omega

theorem judgeReply_replyBytes (range : body.inRange) (short : up.length ≤ 160) (fits : bodyFits kind body = true) :
    judgeReply a kind (replyBytes a body.bytes up) = .good { body := body, carryUp := carriedUp up } := by
  have length : (body.bytes ++ carryTail up).length ≤ 200 := by
    have body_ := ReplyBody.bytes_length range
    have tail := carryTail_length short
    rw [List.length_append]
    omega
  have read : receive (replyBytes a body.bytes up) = .whole ⟨0, fieldAddress a, kindReply, body.bytes ++ carryTail up⟩ :=
    receive_bytes (show 0 < 256 by decide) (fieldAddress_lt a) (show 4 < 256 by decide) length
  have known : ¬ (fieldAddress a ≠ fieldAddress a ∨ kindReply ≠ kindReply) := not_or.mpr ⟨not_not.mpr rfl, not_not.mpr rfl⟩
  rw [judgeReply_reply read rfl known (readReply_bytes range short), if_pos fits]

end

section
variable {s : State} {a : StationId} {up : List Byte}

theorem State.takeCarryUp_eq (s : State) (a : StationId) (up : List Byte) : s.takeCarryUp a (carriedUp up) = s.plusCarryUp a up := by
  cases up <;> rfl

theorem State.stationAnswered_known (known : (s.station a).online ≠ .offline) :
    s.stationAnswered a = s.setStation a { online := .online, missed := 0 } := by
  rw [State.stationAnswered]
  split
  next is => exact absurd is known
  next => rfl

theorem State.stationAnswered_offline (offline : (s.station a).online = .offline) : s.stationAnswered a =
    ((s.setStation a { online := .online, missed := 0 }).raise (s.roomOfStation a) none (some (fieldAddress a))
      (.stationOnline (s.stationSettings a).kind 3)).tellDoor a State.driverOnline := by
  rw [State.stationAnswered, offline]
  rfl

/-- The reply handed on: the body by the station as it has answered, the carried payload, and the end of the visit. -/
theorem State.replyTaken_eq (s : State) (a : StationId) (body : ReplyBody) (up : List Byte) :
    s.replyTaken a { body := body, carryUp := carriedUp up }
      = ((((s.stationAnswered a).deliverCarry).takeBody a body).plusCarryUp a up).visitOver := by
  rw [State.replyTaken, State.takeCarryUp_eq]
  rfl

theorem exec_fieldFrame_reply {v : Visit} {moment began : Nat} {body : ReplyBody} (running : s.phase = .running)
    (visit : s.field.visit = some v) (inTime : began ≤ v.timeout.ends) (range : body.inRange) (short : up.length ≤ 160)
    (fits : bodyFits (s.stationSettings v.station).kind body = true) :
    exec (.fieldFrame moment (replyBytes v.station body.bytes up) began) s = .next
      ((((((s.advance moment).stationAnswered v.station).deliverCarry).takeBody v.station body).plusCarryUp v.station up).visitOver) := by
  rw [exec_fieldFrame running visit inTime, judgeReply_replyBytes range short fits, ← State.replyTaken_eq]
  rfl

/-! ## A station that was OFFLINE (08 R148, 07 R138) -/

/-- A notice of ONLINE changes the doors alone. -/
theorem State.tellDoor_driverOnline_eq (s : State) (a : StationId) :
    ∃ doors, s.tellDoor a State.driverOnline = { s with doors := doors } := by
  rw [State.tellDoor]
  split
  · rw [State.driverOnline]
    split
    · exact ⟨_, rfl⟩
    · exact ⟨s.doors, rfl⟩
  · exact ⟨s.doors, rfl⟩

/-- The notice takes a door out of a FAULT of cause OFFLINE. -/
theorem State.tellDoor_driverOnline_secures {r : RoomId} (place : s.placeOf (fieldAddress a) = some (r, .lockDriver))
    (fault : (s.door r).state = .fault) (cause : (s.door r).cause = some .offline) :
    ((s.tellDoor a State.driverOnline).door r).state = .secure ∧ ((s.tellDoor a State.driverOnline).door r).cause = none := by
  rw [State.tellDoor_some place, State.driverOnline, if_pos ⟨fault, cause⟩, State.secureAgain]
  simp only [State.door, State.setDoor, State.withDoors, look_put_self, and_self]

/-- A payload carried up changes the routine queue and its count alone. -/
theorem State.plusCarryUp_eq (s : State) (a : StationId) (up : List Byte) :
    ∃ q, s.plusCarryUp a up = { s with reports := q } ∧ q.alarms = s.reports.alarms ∧ q.overflow = s.reports.overflow := by
  rw [State.plusCarryUp]
  split
  · exact ⟨s.reports, rfl, rfl, rfl⟩
  · refine ⟨_, rfl, Reports.offerRoutine_alarms _ _, ?_⟩
    rw [Reports.offerRoutine]
    split <;> rfl

end

/-- Settles O50: a good reply by its body, and the frames passed over. -/
theorem fieldFramesAreJudged : Obligations.FieldFramesAreJudged := by
  refine ⟨fun moment bytes began s none => ?_, fun moment began v up s running inTime visit short => ?_⟩
  · show Host.Outcome.next _ = _
    rw [none]
    exact congrArg Host.Outcome.next (ite_self s)
  intro a answered
  have taken {body : ReplyBody} (range : body.inRange) (fits : bodyFits (s.stationSettings a).kind body = true) :=
    exec_fieldFrame_reply (moment := moment) (up := up) running visit inTime range short fits
  have settled (known : (s.station a).online ≠ .offline) : ((s.advance moment).stationAnswered a).deliverCarry = answered :=
    congrArg State.deliverCarry (State.stationAnswered_known (s := s.advance moment) known)
  refine ⟨fun known => ⟨?_, fun credential level checkIn small low reader => ?_, fun r events few driver place => ?_⟩,
    fun offline => ?_, fun f low high few early => ?_⟩
  · have ran := taken (body := .nothing) trivial (by cases (s.stationSettings a).kind <;> rfl)
    rw [settled known] at ran
    exact ran
  · have ran := taken (body := .presentation credential level (if checkIn = true then .checkIn else .pass)) ⟨small, low⟩
      (by rw [reader]; rfl)
    rw [settled known] at ran
    cases checkIn <;> exact ran
  · have ran := taken (body := .events events) few (by rw [driver]; rfl)
    rw [settled known] at ran
    have handed : answered.takeBody a (.events events) = events.foldl (fun x e => x.driverEvent r e) answered :=
      State.tellDoor_some (s := answered) (notice := fun x r => x.driverEvents r events) place
    exact ran.trans (congrArg (fun x : State => Host.Outcome.next (x.plusCarryUp a up).visitOver) handed)
  · have ran := taken (body := .nothing) trivial (by cases (s.stationSettings a).kind <;> rfl)
    let raised : State := ((s.advance moment).setStation a { online := .online, missed := 0 }).raise (s.roomOfStation a) none
      (some (fieldAddress a)) (.stationOnline (s.stationSettings a).kind 3)
    have is : (s.advance moment).stationAnswered a = raised.tellDoor a State.driverOnline :=
      State.stationAnswered_offline (s := s.advance moment) offline
    obtain ⟨doors, told⟩ := State.tellDoor_driverOnline_eq raised a
    obtain ⟨q, up_, alarms, overflow⟩ := State.plusCarryUp_eq (raised.tellDoor a State.driverOnline).deliverCarry a up
    have tells := Reports.tells_offerAlarm s.reports ((s.advance moment).alarmNow (s.roomOfStation a) none (some (fieldAddress a))
      (.stationOnline (s.stationSettings a).kind 3))
    refine ⟨_, ran, ?_, rfl, ?_, fun r place fault cause => ?_⟩
    · rw [is]
      show look (((raised.tellDoor a State.driverOnline).deliverCarry.plusCarryUp a up)).stations a = _
      rw [up_]
      show look (raised.tellDoor a State.driverOnline).stations a = _
      rw [told]
      exact look_put_self _ _ _
    · rw [is]
      show ((raised.tellDoor a State.driverOnline).deliverCarry.plusCarryUp a up).reports.Tells _
      rw [up_]
      show q.Tells _
      rw [Reports.Tells, alarms, overflow]
      show (raised.tellDoor a State.driverOnline).reports.Tells _
      rw [told]
      exact tells
    · rw [is]
      show (look (((raised.tellDoor a State.driverOnline).deliverCarry.plusCarryUp a up)).doors r).state = _ ∧
        (look (((raised.tellDoor a State.driverOnline).deliverCarry.plusCarryUp a up)).doors r).cause = _
      rw [up_]
      exact State.tellDoor_driverOnline_secures (s := raised) place fault cause
  · rw [exec_fieldFrame running visit inTime, judgeReply_ignored low high few]
    exact congrArg Host.Outcome.next (if_neg (mt of_decide_eq_true (Nat.not_le.mpr early)))

end Sys2Proof.Machine

/-! PROOF. The choice of a grant, and the denial where none applies (O59). -/

namespace Sys2Proof.Machine

set_option Elab.async false

/-! ## The first of the highest rank in a list -/

section
variable {α κ : Type} [LinearOrder κ] {rank : α → Option κ} {l : List α} {i : Nat} {a : α} {k : κ}

/-- The element at a place has a rank, and each other that has one is lower, or equal and later. -/
def IsFirstBest (rank : α → Option κ) (l : List α) (i : Nat) (a : α) (k : κ) : Prop :=
  l[i]? = some a ∧ rank a = some k ∧
    ∀ j b k', l[j]? = some b → rank b = some k' → j ≠ i → k' < k ∨ (k' = k ∧ i < j)

theorem IsFirstBest.unique {i' : Nat} {a' : α} {k' : κ} (h : IsFirstBest rank l i a k) (h' : IsFirstBest rank l i' a' k') :
    i = i' := by
  obtain ⟨here, ranked, best⟩ := h
  obtain ⟨here', ranked', best'⟩ := h'
  by_contra apart
  rcases best i' a' k' here' ranked' (Ne.symm apart) with low | ⟨same, before⟩ <;>
    rcases best' i a k here ranked apart with low' | ⟨same', before'⟩
  · exact lt_asymm low low'
  · exact absurd same' (ne_of_gt low)
  · exact absurd same (ne_of_gt low')
  · exact Nat.lt_asymm before before'

theorem getElem?_snoc_cases {j : Nat} {a b : α} (at_ : (l ++ [a])[j]? = some b) : l[j]? = some b ∨ (j = l.length ∧ b = a) := by
  rw [List.getElem?_append] at at_
  split at at_
  next => exact .inl at_
  next past =>
    have first : j - l.length = 0 := by
      by_contra more
      rw [List.getElem?_eq_none (by simp; omega)] at at_
      cases at_
    rw [first] at at_
    cases at_
    exact .inr ⟨by omega, rfl⟩

/-- A new last element that is no better leaves the first of the best where it is. -/
theorem IsFirstBest.snoc_kept {b : α} (h : IsFirstBest rank l i a k) (noBetter : ∀ k', rank b = some k' → k' ≤ k) :
    IsFirstBest rank (l ++ [b]) i a k := by
  obtain ⟨here, ranked, best⟩ := h
  have inside : i < l.length := (List.getElem?_eq_some_iff.mp here).1
  refine ⟨(List.getElem?_append_left inside).trans here, ranked, fun j c k' at_ rankedC apart => ?_⟩
  rcases getElem?_snoc_cases at_ with old | ⟨rfl, rfl⟩
  · exact best j c k' old rankedC apart
  · exact (lt_or_eq_of_le (noBetter k' rankedC)).imp_right fun same => ⟨same, inside⟩

/-- A new last element better than all before is the first of the best. -/
theorem IsFirstBest.snoc_new {b : α} (ranked : rank b = some k) (better : ∀ c ∈ l, ∀ k', rank c = some k' → k' < k) :
    IsFirstBest rank (l ++ [b]) l.length b k := by
  refine ⟨List.getElem?_concat_length, ranked, fun j c k' at_ rankedC apart => ?_⟩
  rcases getElem?_snoc_cases at_ with old | ⟨rfl, rfl⟩
  · exact .inl (better c (List.mem_of_getElem? old) k' rankedC)
  · exact absurd rfl apart

theorem IsFirstBest.le {c : α} {k' : κ} (h : IsFirstBest rank l i a k) (mem : c ∈ l) (rankedC : rank c = some k') : k' ≤ k := by
  obtain ⟨here, ranked, best⟩ := h
  obtain ⟨j, at_⟩ := List.mem_iff_getElem?.mp mem
  by_cases same : j = i
  · subst same
    rw [here] at at_
    cases at_
    rw [ranked] at rankedC
    exact le_of_eq (Option.some.inj rankedC).symm
  · rcases best j c k' at_ rankedC same with low | ⟨eq, -⟩
    · exact le_of_lt low
    · exact le_of_eq eq

end

/-! ## The choice (04 R68) -/

section
variable {part : PartSettings} {zone t : Nat}

/-- The rank of a grant that applies: the less demanding rule, and then the larger allowance. -/
def grantRank (part : PartSettings) (zone t : Nat) (g : Grant) : Option (Nat ᵒᵈ ×ₗ Nat) :=
  if applies part zone g t = true then some (toLex (OrderDual.toDual g.rule.demand, allowanceOf g t)) else none

/-- The grant as the choice carries it. -/
def Grant.asChosen (g : Grant) (i t : Nat) : Chosen := { index := i + 1, rule := g.rule, allowance := allowanceOf g t }

theorem betterThan_iff {g h : Grant} {i j : Nat} : (g.asChosen i t).betterThan (h.asChosen j t) = true ↔
    (toLex (OrderDual.toDual h.rule.demand, allowanceOf h t) : Nat ᵒᵈ ×ₗ Nat) < toLex (OrderDual.toDual g.rule.demand, allowanceOf g t) := by
  rw [Prod.Lex.toLex_lt_toLex, Chosen.betterThan, Bool.or_eq_true, Bool.and_eq_true, decide_eq_true_iff, decide_eq_true_iff,
    beq_iff_eq]
  refine or_congr OrderDual.toDual_lt_toDual.symm (and_congr_left fun _ => ?_)
  exact eq_comm.trans OrderDual.toDual_inj.symm

/-- The choice so far and one more grant that applies. -/
def chosenOf (best : Option Chosen) (c : Chosen) : Chosen :=
  match best with
  | none => c
  | some b => if c.betterThan b then c else b

theorem chooseFrom_cons (i : Nat) (g : Grant) (rest : List Grant) (best : Option Chosen) :
    chooseFrom part zone t i (g :: rest) best = chooseFrom part zone t (i + 1) rest
      (if applies part zone g t then some (chosenOf best { index := i, rule := g.rule, allowance := allowanceOf g t }) else best) := by
  rw [chooseFrom]
  cases best with
  | none => rfl
  | some b =>
    dsimp only [chosenOf]
    rw [apply_ite some]

/-- The choice after one more grant at the end. -/
theorem chooseFrom_snoc (i : Nat) (l : List Grant) (g : Grant) (best : Option Chosen) :
    chooseFrom part zone t i (l ++ [g]) best =
      if applies part zone g t then
        some (chosenOf (chooseFrom part zone t i l best)
          { index := i + l.length, rule := g.rule, allowance := allowanceOf g t })
      else chooseFrom part zone t i l best := by
  induction l generalizing i best with
  | nil =>
    rw [List.nil_append, chooseFrom_cons]
    rfl
  | cons a l ih => rw [List.cons_append, chooseFrom_cons, ih, ← chooseFrom_cons, List.length_cons, Nat.add_assoc, Nat.add_comm 1]

theorem grantRank_of_applies {g : Grant} (does : applies part zone g t = true) :
    grantRank part zone t g = some (toLex (OrderDual.toDual g.rule.demand, allowanceOf g t)) := if_pos does

theorem grantRank_of_not {g : Grant} (doesNot : ¬ applies part zone g t = true) : grantRank part zone t g = none := if_neg doesNot

theorem applies_of_grantRank {g : Grant} {k : Nat ᵒᵈ ×ₗ Nat} (ranked : grantRank part zone t g = some k) :
    applies part zone g t = true ∧ k = toLex (OrderDual.toDual g.rule.demand, allowanceOf g t) := by
  rw [grantRank] at ranked
  split at ranked
  next does => exact ⟨does, (Option.some.inj ranked).symm⟩
  next => cases ranked

/-- The choice is none where no grant applies, and else the first of the best of those that do. -/
theorem chooseGrant_spec (grants : List Grant) :
    (chooseGrant part zone t grants = none ∧ ∀ g ∈ grants, applies part zone g t = false) ∨
    ∃ i g k, IsFirstBest (grantRank part zone t) grants i g k ∧ chooseGrant part zone t grants = some (g.asChosen i t) := by
  induction grants using List.reverseRecOn with
  | nil => exact .inl ⟨rfl, fun g mem => absurd mem List.not_mem_nil⟩
  | append_singleton l g ih =>
    have more : chooseGrant part zone t (l ++ [g]) = if applies part zone g t then
        some (chosenOf (chooseGrant part zone t l) (g.asChosen l.length t)) else chooseGrant part zone t l := by
      rw [chooseGrant, chooseFrom_snoc, Nat.add_comm 1]
      rfl
    by_cases does : applies part zone g t = true
    · rw [if_pos does] at more
      rcases ih with ⟨none, others⟩ | ⟨i, b, k, best, is⟩
      · refine .inr ⟨l.length, g, _, IsFirstBest.snoc_new (grantRank_of_applies does) fun c mem k' ranked => ?_, ?_⟩
        · obtain ⟨applied, -⟩ := applies_of_grantRank ranked
          rw [others c mem] at applied
          cases applied
        · rw [more, none]
          rfl
      · rw [is] at more
        obtain ⟨-, ranked, -⟩ := id best
        obtain ⟨-, rfl⟩ := applies_of_grantRank ranked
        by_cases better : (g.asChosen l.length t).betterThan (b.asChosen i t) = true
        · refine .inr ⟨l.length, g, _, IsFirstBest.snoc_new (grantRank_of_applies does) fun c mem k' rankedC => ?_, ?_⟩
          · exact lt_of_le_of_lt (best.le mem rankedC) (betterThan_iff.mp better)
          · exact more.trans (congrArg some (if_pos better))
        · refine .inr ⟨i, b, _, best.snoc_kept fun k' rankedG => ?_, more.trans (congrArg some (if_neg better))⟩
          obtain ⟨-, rfl⟩ := applies_of_grantRank rankedG
          exact not_lt.mp (mt betterThan_iff.mpr better)
    · rw [if_neg does] at more
      rcases ih with ⟨none, others⟩ | ⟨i, b, k, best, is⟩
      · refine .inl ⟨more.trans none, fun c mem => ?_⟩
        rcases List.mem_append.mp mem with old | new
        · exact others c old
        · rw [List.mem_singleton.mp new]
          exact Bool.eq_false_iff.mpr does
      · refine .inr ⟨i, b, k, best.snoc_kept fun k' ranked => ?_, more.trans is⟩
        rw [grantRank_of_not does] at ranked
        cases ranked

/-! ## The denial (04 R69) -/

/-- The rank of a grant that does not apply: its stage. -/
def stageRank (part : PartSettings) (zone t : Nat) (g : Grant) : Option Nat := some (grantStage part zone g t).1

/-- The denial so far and one more grant. -/
def deniedOf (best : Option (Nat × Nat × Reason)) (i : Nat) (stage : Nat × Reason) : Nat × Nat × Reason :=
  match best with
  | none => (i, stage)
  | some b => if b.2.1 < stage.1 then (i, stage) else b

theorem denialFrom_cons (i : Nat) (g : Grant) (rest : List Grant) (best : Option (Nat × Nat × Reason)) :
    denialFrom part zone t i (g :: rest) best
      = denialFrom part zone t (i + 1) rest (some (deniedOf best i (grantStage part zone g t))) := by
  rw [denialFrom]
  cases best with
  | none => rfl
  | some b =>
    dsimp only [deniedOf]
    rw [apply_ite some]

theorem denialFrom_snoc (i : Nat) (l : List Grant) (g : Grant) (best : Option (Nat × Nat × Reason)) :
    denialFrom part zone t i (l ++ [g]) best
      = some (deniedOf (denialFrom part zone t i l best) (i + l.length) (grantStage part zone g t)) := by
  induction l generalizing i best with
  | nil => exact denialFrom_cons i g [] best
  | cons a l ih => rw [List.cons_append, denialFrom_cons, ih, ← denialFrom_cons, List.length_cons, Nat.add_assoc, Nat.add_comm 1]

theorem denialFrom_spec (grants : List Grant) : (denialFrom part zone t 1 grants none = none ∧ grants = []) ∨
    ∃ i g k, IsFirstBest (stageRank part zone t) grants i g k ∧
      denialFrom part zone t 1 grants none = some (i + 1, grantStage part zone g t) := by
  induction grants using List.reverseRecOn with
  | nil => exact .inl ⟨rfl, rfl⟩
  | append_singleton l g ih =>
    have more := denialFrom_snoc (part := part) (zone := zone) (t := t) 1 l g none
    rw [Nat.add_comm 1] at more
    rcases ih with ⟨none, rfl⟩ | ⟨i, b, k, best, is⟩
    · refine .inr ⟨0, g, _, IsFirstBest.snoc_new (l := []) rfl fun c mem => absurd mem List.not_mem_nil, more⟩
    · rw [is] at more
      obtain ⟨-, ranked, -⟩ := id best
      cases ranked
      by_cases better : (grantStage part zone b t).1 < (grantStage part zone g t).1
      · refine .inr ⟨l.length, g, _, IsFirstBest.snoc_new rfl fun c mem k' rankedC => ?_,
          more.trans (congrArg some (if_pos better))⟩
        exact lt_of_le_of_lt (best.le mem rankedC) better
      · refine .inr ⟨i, b, _, best.snoc_kept fun k' rankedG => ?_, more.trans (congrArg some (if_neg better))⟩
        cases rankedG
        exact not_lt.mp better

end

/-- Settles O59: both folds carry the first of the best so far. -/
theorem grantIsChosenByThreeKeys : Obligations.GrantIsChosenByThreeKeys := by
  intro part zone t grants demand
  have demands : demand = EscortRule.demand := funext fun rule => by cases rule <;> rfl
  have key {g h : Grant} {i j : Nat} : (demand g.rule < demand h.rule ∨ (demand g.rule = demand h.rule ∧
        (allowanceOf h t < allowanceOf g t ∨ (allowanceOf h t = allowanceOf g t ∧ i < j)))) ↔
      ((toLex (OrderDual.toDual h.rule.demand, allowanceOf h t) : Nat ᵒᵈ ×ₗ Nat)
          < toLex (OrderDual.toDual g.rule.demand, allowanceOf g t) ∨
        (toLex (OrderDual.toDual h.rule.demand, allowanceOf h t) : Nat ᵒᵈ ×ₗ Nat)
          = toLex (OrderDual.toDual g.rule.demand, allowanceOf g t) ∧ i < j) := by
    rw [demands, Prod.Lex.toLex_lt_toLex, toLex_inj, Prod.mk.injEq, OrderDual.toDual_lt_toDual, OrderDual.toDual_inj,
      @eq_comm _ h.rule.demand]
    tauto
  refine ⟨fun g => ?_, ?_, fun c => ?_, fun g => ?_, fun i reason => ?_⟩
  · rw [applies_iff, inDateWindow_iff, and_assoc]
    rfl
  · rcases chooseGrant_spec (part := part) (zone := zone) (t := t) grants with ⟨none, others⟩ | ⟨i, g, k, best, is⟩
    · exact ⟨fun _ => others, fun _ => none⟩
    · obtain ⟨here, ranked, -⟩ := best
      obtain ⟨does, -⟩ := applies_of_grantRank ranked
      rw [is]
      refine ⟨nofun, fun none => ?_⟩
      rw [none g (List.mem_of_getElem? here)] at does
      cases does
  · have first {i : Nat} {g : Grant} : (∃ k, IsFirstBest (grantRank part zone t) grants i g k) ↔
        grants[i]? = some g ∧ applies part zone g t = true ∧
          ∀ (j : Nat) (h : Grant), grants[j]? = some h → applies part zone h t = true → j ≠ i →
            demand g.rule < demand h.rule ∨ (demand g.rule = demand h.rule ∧
              (allowanceOf h t < allowanceOf g t ∨ (allowanceOf h t = allowanceOf g t ∧ i < j))) := by
      refine ⟨fun ⟨k, here, ranked, best⟩ => ?_, fun ⟨here, does, best⟩ => ?_⟩
      · obtain ⟨does, rfl⟩ := applies_of_grantRank ranked
        exact ⟨here, does, fun j h at_ applied apart => key.mpr (best j h _ at_ (grantRank_of_applies applied) apart)⟩
      · refine ⟨_, here, grantRank_of_applies does, fun j h k' at_ ranked apart => ?_⟩
        obtain ⟨applied, rfl⟩ := applies_of_grantRank ranked
        exact key.mp (best j h at_ applied apart)
    have all : (∃ (i : Nat) (g : Grant), grants[i]? = some g ∧ applies part zone g t = true ∧ c = g.asChosen i t ∧
        ∀ (j : Nat) (h : Grant), grants[j]? = some h → applies part zone h t = true → j ≠ i →
            demand g.rule < demand h.rule ∨ (demand g.rule = demand h.rule ∧
              (allowanceOf h t < allowanceOf g t ∨ (allowanceOf h t = allowanceOf g t ∧ i < j)))) ↔
        ∃ i g, c = g.asChosen i t ∧ ∃ k, IsFirstBest (grantRank part zone t) grants i g k := by
      refine exists_congr fun i => exists_congr fun g => ?_
      rw [first]
      tauto
    refine Iff.trans ?_ all.symm
    rcases chooseGrant_spec (part := part) (zone := zone) (t := t) grants with ⟨none, others⟩ | ⟨i, g, k, best, is⟩
    · rw [none]
      refine ⟨nofun, fun ⟨i, g, _, k, here, ranked, _⟩ => ?_⟩
      obtain ⟨does, -⟩ := applies_of_grantRank ranked
      rw [others g (List.mem_of_getElem? here)] at does
      cases does
    · rw [is, Option.some.injEq]
      refine ⟨fun eq => ⟨i, g, eq.symm, k, best⟩, fun ⟨i', g', eq, k', best'⟩ => ?_⟩
      obtain rfl := best.unique best'
      obtain rfl : g = g' := Option.some.inj (best.1.symm.trans best'.1)
      exact eq.symm
  · refine ⟨fun outside => ?_, fun inside => ⟨fun early => ?_, fun begun ended => ?_, fun begun open_ => ?_⟩⟩
    · rw [grantStage, outside]
      rfl
    all_goals rw [grantStage, inside, Bool.not_true, if_neg Bool.false_ne_true]
    · rw [if_pos early]
    · rw [if_neg (Nat.not_lt.mpr begun), if_pos ended]
    · rw [if_neg (Nat.not_lt.mpr begun), if_neg (Nat.not_le.mpr open_)]
  · have first {n : Nat} {g : Grant} : (∃ k, IsFirstBest (stageRank part zone t) grants n g k) ↔ grants[n]? = some g ∧
        ∀ (j : Nat) (h : Grant), grants[j]? = some h → j ≠ n →
          (grantStage part zone h t).1 < (grantStage part zone g t).1 ∨
          ((grantStage part zone h t).1 = (grantStage part zone g t).1 ∧ n < j) := by
      refine ⟨fun ⟨k, here, ranked, best⟩ => ?_, fun ⟨here, best⟩ => ⟨_, here, rfl, fun j h k' at_ ranked apart => ?_⟩⟩
      · cases ranked
        exact ⟨here, fun j h at_ apart => best j h _ at_ rfl apart⟩
      · cases ranked
        exact best j h at_ apart
    have all : (∃ (n : Nat) (g : Grant), i = n + 1 ∧ grants[n]? = some g ∧ reason = (grantStage part zone g t).2 ∧
        ∀ (j : Nat) (h : Grant), grants[j]? = some h → j ≠ n →
          (grantStage part zone h t).1 < (grantStage part zone g t).1 ∨
          ((grantStage part zone h t).1 = (grantStage part zone g t).1 ∧ n < j)) ↔
        ∃ n g, (i, reason) = (n + 1, (grantStage part zone g t).2) ∧ ∃ k, IsFirstBest (stageRank part zone t) grants n g k := by
      refine exists_congr fun n => exists_congr fun g => ?_
      rw [first, Prod.mk.injEq]
      tauto
    refine Iff.trans ?_ all.symm
    rcases denialFrom_spec (part := part) (zone := zone) (t := t) grants with ⟨none, rfl⟩ | ⟨n, g, k, best, is⟩
    · refine ⟨nofun, fun ⟨n, g, _, k, here, _⟩ => ?_⟩
      cases here
    · rw [denialOf, is, Option.map_some, Option.some.injEq]
      refine ⟨fun eq => ⟨n, g, eq.symm, k, best⟩, fun ⟨n', g', eq, k', best'⟩ => ?_⟩
      obtain rfl := best.unique best'
      obtain rfl : g = g' := Option.some.inj (best.1.symm.trans best'.1)
      exact eq.symm

end Sys2Proof.Machine

/-! PROOF. The layer of the Decision Engine: verdicts issued, the paths that a presentation takes, and the small operations of a
decision (chapters 4 and 5). -/

namespace Sys2Proof.Machine

set_option Elab.async false

/-! ## Verdicts issued (03 R54, 04 R78) -/

section
variable {x : State} {v : Verdict} {r : RoomId} {d : Direction} {image : OverlayImage}

theorem State.issue_showing (place : v.place = some (r, d)) (overlay : overlayOf v.outcome = some image) :
    x.issue v = { x with rooms := x.roomsShowing r d image, reports := x.reports.offerRoutine (.verdict v) } := by
  have shown : x.showOutcome v.place v.outcome = x.setOverlay r d image := by simp only [State.showOutcome, place, overlay]
  rw [State.issue, shown]
  cases d <;> rfl

theorem State.issue_pending (overlay : overlayOf v.outcome = none) :
    x.issue v = { x with reports := x.reports.offerRoutine (.verdict v) } := by
  have shown : x.showOutcome v.place v.outcome = x := by
    rw [State.showOutcome.eq_def, overlay]
    cases v.place <;> rfl
  rw [State.issue, shown]
  rfl

theorem State.issue_nowhere (nowhere : v.place = none) :
    x.issue v = { x with reports := x.reports.offerRoutine (.verdict v) } := by
  rw [State.issue, nowhere]
  rfl

/-- A later overlay at the same reader at the same moment takes the place of the first one. -/
theorem State.roomsShowing_again {y : State} {first : OverlayImage} (rooms : y.rooms = x.roomsShowing r d first)
    (now : y.now = x.now) : y.roomsShowing r d image = x.roomsShowing r d image := by
  have room : y.room r = look (x.roomsShowing r d first) r := congrArg (look · r) rooms
  cases d with
  | entry =>
    have shown : x.roomsShowing r .entry first = put x.rooms r { x.room r with
      entryOverlay := some { image := first, timer := countdownFrom x.now 3000 } } := rfl
    rw [shown, look_put_self] at room
    show put y.rooms r { y.room r with entryOverlay := some { image := image, timer := countdownFrom y.now 3000 } } = _
    rw [rooms, shown, put_put, room, now]
    rfl
  | exit =>
    have shown : x.roomsShowing r .exit first = put x.rooms r { x.room r with
      exitOverlay := some { image := first, timer := countdownFrom x.now 3000 } } := rfl
    rw [shown, look_put_self] at room
    show put y.rooms r { y.room r with exitOverlay := some { image := image, timer := countdownFrom y.now 3000 } } = _
    rw [rooms, shown, put_put, room, now]
    rfl

/-- Two verdicts of one reader, one after the other. -/
theorem State.issue_both {w : Verdict} {first : OverlayImage} (place : v.place = some (r, d)) (overlay : overlayOf v.outcome = some first)
    (placeW : w.place = some (r, d)) (overlayW : overlayOf w.outcome = some image) : (x.issue v).issue w =
      { x with rooms := x.roomsShowing r d image, reports := x.reports.offerVerdicts [v, w] } := by
  have again := State.roomsShowing_again (image := image)
    (y := { x with rooms := x.roomsShowing r d first, reports := x.reports.offerRoutine (.verdict v) }) rfl rfl
  rw [State.issue_showing place overlay, State.issue_showing placeW overlayW, again]
  rfl

end

section
variable (x : State) (r : RoomId) (p : Presentation) (reason : Reason)

/-- A denial at an entry reader, with the permit number and the grant index where they are known. -/
def State.denial (permitNumber grantIndex : Option Nat) : State :=
  { x with
    rooms := x.roomsShowing r .entry .denied
    reports := x.reports.offerRoutine (.verdict
      { x.verdictOn p (some (r, .entry)) .deny reason with permitNumber := permitNumber, grantIndex := grantIndex }) }

theorem State.denyPlain_eq : x.denyPlain r p reason = x.denial r p reason none none := State.issue_showing rfl rfl

theorem State.denyContractor_eq (permitNumber : Nat) (grantIndex : Option Nat) :
    x.denyContractor r p permitNumber grantIndex reason = x.denial r p reason (some permitNumber) grantIndex :=
  State.issue_showing rfl rfl

theorem State.denyChosen_eq (w : Permit) (c : Chosen) :
    x.denyChosen r p w c reason = x.denial r p reason (some w.permitNumber) (some c.index) := State.issue_showing rfl rfl

end

/-! ## The path to a decision (03 R55, 04 R58 to R61) -/

section
variable {s : State} {p : Presentation} {r : RoomId}

theorem State.present_suppressed {last : LastPresentation} (record : look s.lastSeen p.reader = some last)
    (same : last.credential = p.credential) (soon : s.now - last.moment < s.settings.part.repeatSuppression * 500) :
    s.present p = s := by
  have suppressed : s.suppressed p = true := by
    rw [State.suppressed, record]
    simp only [same, beq_self_eq_true, Bool.true_and, decide_eq_true soon]
  rw [State.present, if_pos suppressed]

theorem State.present_lets (lets : s.lets p) : s.present p = (s.noted p).screen p := by
  have passes : ¬ s.suppressed p = true := by
    rw [State.suppressed]
    cases record : look s.lastSeen p.reader with
    | none => exact Bool.false_ne_true
    | some last =>
      simp only [Bool.and_eq_true, beq_iff_eq, decide_eq_true_eq, not_and, Nat.not_lt]
      intro same
      rcases lets last record with other | late
      · exact absurd same other
      · omega
  rw [State.present, if_neg passes]
  rfl

theorem State.present_entry (place : s.placeOf (fieldAddress p.reader) = some (r, .entryReader)) (lets : s.lets p)
    (valid : validCredential p.credential = true) : s.present p = (s.noted p).decideEntry r p := by
  have place : (s.noted p).placeOf (fieldAddress p.reader) = some (r, .entryReader) := place
  rw [State.present_lets lets, State.screen, place]
  exact if_pos valid

variable {x : State}

theorem State.decideEntry_locked (locked : (x.room r).mode = .locked) : x.decideEntry r p = x.denyPlain r p .roomLocked := if_pos locked

theorem State.decideEntry_fault (free : (x.room r).mode ≠ .locked) (fault : (x.door r).state = .fault ∨ (x.door r).state = .faultHold) :
    x.decideEntry r p = x.denyPlain r p .doorFault := (if_neg free).trans (if_pos fault)

theorem State.decideEntry_staff {u : Staff} (free : (x.room r).mode ≠ .locked)
    (sound : ¬ ((x.door r).state = .fault ∨ (x.door r).state = .faultHold)) (staff : x.staffOf p.credential = some u) :
    x.decideEntry r p = x.decideStaff r p u := by
  rw [State.decideEntry, if_neg free, if_neg sound, staff]

theorem State.decideEntry_contractor {w : Permit} (free : (x.room r).mode ≠ .locked)
    (sound : ¬ ((x.door r).state = .fault ∨ (x.door r).state = .faultHold)) (noStaff : x.staffOf p.credential = none)
    (permit : x.permitOf p.credential = some w) : x.decideEntry r p = x.decideContractor r p w := by
  rw [State.decideEntry, if_neg free, if_neg sound, noStaff]
  simp only [permit]

theorem State.decideEntry_stranger (free : (x.room r).mode ≠ .locked)
    (sound : ¬ ((x.door r).state = .fault ∨ (x.door r).state = .faultHold)) (noStaff : x.staffOf p.credential = none)
    (noPermit : x.permitOf p.credential = none) : x.decideEntry r p = x.denyPlain r p .noPermit := by
  rw [State.decideEntry, if_neg free, if_neg sound, noStaff]
  simp only [noPermit]

/-! ## The staff path (04 R62) -/

theorem State.decideStaff_active {u : Staff} (active : u.active = true) (zone : x.inZone r u.zoneMask = true) :
    x.decideStaff r p u = if x.collectsFromInside r p.credential = true then x.decideStaffSlot r p u
      else match x.passback r p with
        | none => x.denyPlain r p .alreadyInside
        | some y => y.decideStaffSlot r p u := by
  rw [State.decideStaff, active, zone]
  rfl

theorem State.reachesStaff.present_eq {u : Staff} (h : s.reachesStaff r p u) : s.present p = (s.noted p).decideStaff r p u := by
  obtain ⟨noFault, noHold⟩ := h.door
  have sound : ¬ ((s.door r).state = .fault ∨ (s.door r).state = .faultHold) := not_or.mpr ⟨noFault, noHold⟩
  exact (State.present_entry h.place h.lets h.valid).trans (State.decideEntry_staff (x := s.noted p) h.mode sound h.staff)

/-- A member of staff who collects the party of the room from inside it (04 R62). -/
theorem State.reachesStaff.present_collects {u : Staff} (h : s.reachesStaff r p u) (collects : s.collectsFromInside r p.credential = true) :
    s.present p = (s.noted p).decideStaffSlot r p u := by
  have zone : (s.noted p).inZone r u.zoneMask = true := h.zone
  have collects : (s.noted p).collectsFromInside r p.credential = true := collects
  rw [h.present_eq, State.decideStaff_active h.active zone, if_pos collects]

theorem State.reachesStaff.present_passes {u : Staff} {y : State} (h : s.reachesStaff r p u)
    (outside : s.collectsFromInside r p.credential = false) (passes : (s.noted p).passback r p = some y) :
    s.present p = y.decideStaffSlot r p u := by
  have zone : (s.noted p).inZone r u.zoneMask = true := h.zone
  have outside : (s.noted p).collectsFromInside r p.credential = false := outside
  rw [h.present_eq, State.decideStaff_active h.active zone, outside, if_neg Bool.false_ne_true, passes]

theorem State.reachesStaff.present_inside {u : Staff} (h : s.reachesStaff r p u)
    (outside : s.collectsFromInside r p.credential = false) (denied : (s.noted p).passback r p = none) :
    s.present p = (s.noted p).denyPlain r p .alreadyInside := by
  have zone : (s.noted p).inZone r u.zoneMask = true := h.zone
  have outside : (s.noted p).collectsFromInside r p.credential = false := outside
  rw [h.present_eq, State.decideStaff_active h.active zone, outside, if_neg Bool.false_ne_true, denied]

theorem State.collectsFromInside_of_offRoll {c : Nat} (off : s.offRoll c) : s.collectsFromInside r c = false := by
  rw [State.collectsFromInside, State.presenceOf_eq_none.mpr off]
  exact Bool.and_false _

theorem State.collectsFromInside_of_apart {c : Nat} {q : Presence} (inside : s.presenceOf c = some q)
    (apart : q.room = r → ∀ y, s.slot r ≠ .party y) : s.collectsFromInside r c = false := by
  rw [State.collectsFromInside, inside]
  by_cases here : q.room = r
  · have noParty : (s.slot r).isParty = false := by
      cases slot : s.slot r with
      | party y => exact absurd slot (apart here y)
      | _ => rfl
    rw [noParty]
    rfl
  · have other : (q.room == r) = false := beq_eq_false_iff_ne.mpr here
    simp only [other, Bool.and_false]

/-! ## The contractor path (04 R65 to R70) -/

theorem State.waitingHere_none {c : Nat} (none : ∀ y, x.slot r = .party y → ∀ m ∈ y.members, m.credential ≠ c) :
    x.waitingHere r c = .none := by
  rw [State.waitingHere]
  split
  next y slot =>
    rw [List.find?_eq_none.mpr fun m mem same => none y slot m mem (eq_of_beq same)]
    rfl
  next => rfl

theorem State.contractorBar_none {w : Permit} (normal : (x.room r).mode = .normal) (time : x.clock.timeState ≠ .unset)
    (active : w.state = .active) : x.contractorBar r w = none := by
  have free : (x.room r).mode ≠ .contractorHold := by rw [normal]; exact nofun
  rw [State.contractorBar, if_neg free, if_neg time, active]
  rfl

theorem IssueLock.mismatch_none {lock : IssueLock} {level : Nat} (accepts : lock = .off ∨ lock = .learn ∨ lock = .fixed level) :
    lock.mismatch level = none := by
  rcases accepts with rfl | rfl | rfl
  · rfl
  · rfl
  · exact if_pos rfl

theorem State.reachesLock.present_eq {w : Permit} (h : s.reachesLock r p w) :
    s.present p = (s.noted p).decideContractor r p w := by
  obtain ⟨noFault, noHold⟩ := h.door
  have sound : ¬ ((s.door r).state = .fault ∨ (s.door r).state = .faultHold) := not_or.mpr ⟨noFault, noHold⟩
  have free : (s.room r).mode ≠ .locked := by rw [h.mode]; exact nofun
  exact (State.present_entry h.place h.lets h.valid).trans
    (State.decideEntry_contractor (x := s.noted p) free sound h.noStaff h.permit)

section
variable {w : Permit} (h : s.reachesLock r p w) (accepts : w.lock = .off ∨ w.lock = .learn ∨ w.lock = .fixed p.issueLevel)

include h in
/-- A contractor who does not wait there and whose permit is in force is decided by the issue lock. -/
theorem State.reachesLock.unbarred : (s.noted p).waitingHere r p.credential = none ∧ (s.noted p).contractorBar r w = none :=
  ⟨State.waitingHere_none (x := s.noted p) h.notWaiting, State.contractorBar_none (x := s.noted p) h.mode h.time h.active⟩

include h accepts

theorem State.reachesLock.present_unchosen {index : Nat} {reason : Reason}
    (none : chooseGrant s.settings.part (s.room r).zoneIndex s.clock.minute w.grants = none)
    (denied : denialOf s.settings.part (s.room r).zoneIndex s.clock.minute w.grants = some (index, reason)) :
    s.present p = (s.noted p).denyContractor r p w.permitNumber (some index) reason := by
  obtain ⟨waiting, bar⟩ := h.unbarred
  have none' : chooseGrant (s.noted p).settings.part ((s.noted p).room r).zoneIndex (s.noted p).clock.minute w.grants = .none := none
  have denied' : denialOf (s.noted p).settings.part ((s.noted p).room r).zoneIndex (s.noted p).clock.minute w.grants
    = some (index, reason) := denied
  rw [h.present_eq, State.decideContractor, waiting]
  simp only [bar, IssueLock.mismatch_none accepts, none', denied']

theorem State.reachesLock.present_passes {c : Chosen} {y : State}
    (chosen : chooseGrant s.settings.part (s.room r).zoneIndex s.clock.minute w.grants = some c)
    (passes : (s.noted p).passback r p = some y) : s.present p = y.escortHandling r p w c := by
  obtain ⟨waiting, bar⟩ := h.unbarred
  have chosen' : chooseGrant (s.noted p).settings.part ((s.noted p).room r).zoneIndex (s.noted p).clock.minute w.grants = some c :=
    chosen
  rw [h.present_eq, State.decideContractor, waiting]
  simp only [bar, IssueLock.mismatch_none accepts, chosen', passes]

theorem State.reachesLock.present_inside {c : Chosen}
    (chosen : chooseGrant s.settings.part (s.room r).zoneIndex s.clock.minute w.grants = some c)
    (denied : (s.noted p).passback r p = none) :
    s.present p = (s.noted p).denyContractor r p w.permitNumber none .alreadyInside := by
  obtain ⟨waiting, bar⟩ := h.unbarred
  have chosen' : chooseGrant (s.noted p).settings.part ((s.noted p).room r).zoneIndex (s.noted p).clock.minute w.grants = some c :=
    chosen
  rw [h.present_eq, State.decideContractor, waiting]
  simp only [bar, IssueLock.mismatch_none accepts, chosen', denied]

end

/-! ## Passback (04 R70) -/

theorem State.passback_offRoll (off : x.offRoll p.credential) : x.passback r p = some x := by
  rw [State.passback, State.presenceOf_eq_none.mpr off]

theorem State.passback_hard {q : Presence} (inside : x.presenceOf p.credential = some q)
    (hard : (x.roomSettings r).passback = .hard ∧ (x.room q.room).rollState = .exact) : x.passback r p = none := by
  rw [State.passback, inside]
  exact if_pos hard

theorem State.passback_soft {q : Presence} (inside : x.presenceOf p.credential = some q)
    (soft : ¬ ((x.roomSettings r).passback = .hard ∧ (x.room q.room).rollState = .exact)) : x.passback r p = some
      ((x.raise (some r) (some p.credential) (some (fieldAddress p.reader)) (.passback q.room q.entryMinute)).departOne q .passback) := by
  rw [State.passback, inside]
  exact if_neg soft

/-- A contractor without a presence record meets the escort rule of the chosen grant. -/
theorem State.reachesChoice.present_eq {w : Permit} {c : Chosen} (h : s.reachesChoice r p w)
    (chosen : chooseGrant s.settings.part (s.room r).zoneIndex s.clock.minute w.grants = some c) :
    s.present p = (s.noted p).escortHandling r p w c := by
  have lock : s.reachesLock r p w := ⟨h.place, h.lets, h.valid, h.mode, h.door, h.noStaff, h.permit, h.notWaiting, h.time, h.active⟩
  exact lock.present_passes h.level chosen (State.passback_offRoll (x := s.noted p) h.offRoll)

/-- A member of staff without a presence record is decided by the slot of the room. -/
theorem State.reachesStaff.present_offRoll {u : Staff} (h : s.reachesStaff r p u) (off : s.offRoll p.credential) :
    s.present p = (s.noted p).decideStaffSlot r p u :=
  h.present_passes (State.collectsFromInside_of_offRoll off) (State.passback_offRoll (x := s.noted p) off)

end

end Sys2Proof.Machine

/-! PROOF. What a departure leaves of the slots and the roll, and the order of the entry checks with passback (O54). -/

namespace Sys2Proof.Machine

set_option Elab.async false

/-! ## The slots after a departure (05 R92, 06 R106) -/

/-- A departure from a room changes no other slot, and at the room it can but end a lead. -/
structure LeadMayEnd (r : RoomId) (x y : State) : Prop where
  other : ∀ k, k ≠ r → y.slot k = x.slot k
  here : y.slot r = x.slot r ∨ ∃ l, x.slot r = .lead l ∧ y.slot r = .empty

namespace LeadMayEnd

variable {x y z : State} {r : RoomId} {cause : DepartureCause}

theorem of_slots (same : y.slots = x.slots) : LeadMayEnd r x y :=
  ⟨fun k _ => congrArg (look · k) same, .inl (congrArg (look · r) same)⟩

theorem trans (h : LeadMayEnd r x y) (k : LeadMayEnd r y z) : LeadMayEnd r x z := by
  refine ⟨fun q apart => (k.other q apart).trans (h.other q apart), ?_⟩
  rcases h.here with same | ⟨l, lead, empty⟩ <;> rcases k.here with same' | ⟨l', lead', empty'⟩
  · exact .inl (same'.trans same)
  · exact .inr ⟨l', same ▸ lead', empty'⟩
  · exact .inr ⟨l, lead, same'.trans empty⟩
  · exact .inr ⟨l, lead, empty'⟩

theorem endEnteredLead (x : State) (r : RoomId) (staff : Nat) : LeadMayEnd r x (x.endEnteredLead r staff) := by
  rw [State.endEnteredLead]
  split
  next l slot =>
    split
    · exact ⟨fun k apart => look_put_other _ _ _ _ (Ne.symm apart), .inr ⟨l, slot, look_put_self _ _ _⟩⟩
    · exact of_slots rfl
  next => exact of_slots rfl

theorem afterRemoval (x : State) (p : Presence) : LeadMayEnd p.room x (x.afterRemoval cause p) := by
  rw [State.afterRemoval]
  split
  · have relinked : Keeps [.roll, .reports] x
        (((x.roll.filter fun k => k.linkedTo p.credential).map Presence.credential).foldl
          (fun s c => s.relink p.room p.credential cause c) x) :=
      Keeps.fold (fun s c => relink_keeps s p.room p.credential cause c) _ x
    have slots : _ = x.slots := relinked .slots (by decide)
    exact (of_slots slots).trans (endEnteredLead _ _ _)
  · split
    next b _ =>
      have kept : Keeps [.roll, .reports] x _ := partnerLeft_keeps x p.room p.credential b cause
      exact of_slots (kept .slots (by decide))
    next => exact of_slots rfl

theorem depart (s : State) (r : RoomId) (gone : Presence → Bool) (cause : DepartureCause) :
    LeadMayEnd r s (s.depart r gone cause) := by
  have walk (l : List Presence) (here : ∀ p ∈ l, p.room = r) (x : State) :
      LeadMayEnd r x (l.foldl (fun s p => s.afterRemoval cause p) x) := by
    induction l generalizing x with
    | nil => exact of_slots rfl
    | cons p l ih =>
      have first : LeadMayEnd r x (x.afterRemoval cause p) := here p List.mem_cons_self ▸ afterRemoval x p
      exact first.trans (ih (fun q mem => here q (List.mem_cons_of_mem _ mem)) _)
  have room (p : Presence) (mem : p ∈ s.roll.filter fun p => p.room == r && gone p) : p.room = r := by
    obtain ⟨-, leaves⟩ := List.mem_filter.mp mem
    exact eq_of_beq (Bool.and_eq_true_iff.mp leaves).1
  have walked := walk _ room (s.withRoll (s.roll.filter fun p => !(p.room == r && gone p)))
  have evaluated (x : State) : LeadMayEnd r x (x.evaluateLone r) := of_slots (evaluateLone_keeps x r .slots (by decide))
  have removed : LeadMayEnd r s (s.withRoll (s.roll.filter fun p => !(p.room == r && gone p))) := of_slots rfl
  exact (removed.trans walked).trans (evaluated _)

theorem party {y' : Party} (h : LeadMayEnd r x y) {k : RoomId} (slot : y.slot k = .party y') : x.slot k = .party y' := by
  by_cases here : k = r
  · subst here
    rcases h.here with same | ⟨l, -, empty⟩
    · exact same ▸ slot
    · rw [empty] at slot
      cases slot
  · exact (h.other k here) ▸ slot

end LeadMayEnd

/-! ## One record's departure -/

section
variable {s : State} {c : Nat} {q : Presence}

/-- The record of a credential is the one that a departure of the credential from its room removes. -/
theorem filter_departing (once : (s.roll.map Presence.credential).Nodup) (inside : s.presenceOf c = some q) :
    (s.roll.filter fun p => !(p.room == q.room && p.credential == c)) = s.roll.filter fun p => p.credential != c := by
  obtain ⟨mem, is⟩ := State.presenceOf_some inside
  refine List.filter_congr fun p inRoll => ?_
  by_cases same : p.credential = c
  · have eq : p = q := List.inj_on_of_nodup_map once inRoll mem (same.trans is.symm)
    subst eq
    simp [same]
  · have other : (p.credential == c) = false := beq_eq_false_iff_ne.mpr same
    rw [other, Bool.and_false, bne, other]

theorem State.depart_places (once : (s.roll.map Presence.credential).Nodup) (inside : s.presenceOf c = some q)
    (cause : DepartureCause) :
    (s.depart q.room (fun x => x.credential == c) cause).roll.map (fun x => (x.room, x.credential)) =
      (s.roll.filter fun x => x.credential != c).map (fun x => (x.room, x.credential)) := by
  refine (Departing.depart s q.room (fun x => x.credential == c) cause).places.trans ?_
  exact congrArg (List.map _) (filter_departing once inside)

theorem State.depart_offRoll (once : (s.roll.map Presence.credential).Nodup) (inside : s.presenceOf c = some q)
    (cause : DepartureCause) : (s.depart q.room (fun x => x.credential == c) cause).offRoll c := by
  intro p mem same
  have place : (p.room, p.credential) ∈ (s.roll.filter fun x => x.credential != c).map fun x => (x.room, x.credential) := by
    rw [← State.depart_places once inside cause]
    exact List.mem_map_of_mem mem
  obtain ⟨p0, stays, is⟩ := List.mem_map.mp place
  obtain ⟨-, other⟩ := List.mem_filter.mp stays
  rw [(Prod.mk.inj is).2, same, bne_self_eq_false] at other
  cases other

theorem State.departOne_eq (once : (s.roll.map Presence.credential).Nodup) (inside : s.presenceOf c = some q)
    (cause : DepartureCause) : s.departOne q cause = s.departed q.room (fun x => x.credential == c) cause := by
  obtain ⟨-, rfl⟩ := State.presenceOf_some inside
  exact State.depart_eq s q.room _ cause once

theorem State.departed_keeps (once : (s.roll.map Presence.credential).Nodup) (r : RoomId) (gone : Presence → Bool)
    (cause : DepartureCause) : Keeps [.roll, .slots, .reports] s (s.departed r gone cause) :=
  State.depart_eq s r gone cause once ▸ depart_keeps s r gone cause

/-- A state that keeps every field but those of the slots, the roll and the reports is the other with these three changed. -/
theorem Keeps.eq_of_roll {t : State} (h : Keeps [.roll, .slots, .reports] s t) :
    t = { s with slots := t.slots, roll := t.roll, reports := t.reports } := by
  have people := (h.mono : Keeps [.rooms, .slots, .roll, .reports] s t).eq_of_people
  have rooms : t.rooms = s.rooms := h .rooms (by decide)
  rw [rooms] at people
  exact people

/-- A departure leaves the last presentations to be noted. -/
theorem State.departed_noted (once : (s.roll.map Presence.credential).Nodup) (p : Presentation) (r : RoomId)
    (gone : Presence → Bool) (cause : DepartureCause) :
    (s.noted p).departed r gone cause = (s.departed r gone cause).noted p := by
  let seen := put s.lastSeen p.reader (some { credential := p.credential, moment := s.now })
  refine (State.departed_aside s s.trunk seen r gone cause).trans ?_
  rw [(State.departed_keeps once r gone cause).eq_of_roll]
  rfl

end

/-! ## Passback (04 R70) -/

section
variable {s : State} {p : Presentation} {r : RoomId}

/-- The state with the alarm PASSBACK of a record. -/
def State.passbackTold (s : State) (r : RoomId) (p : Presentation) (q : Presence) : State :=
  { s with
    reports := s.reports.offerAlarm
      { minute := s.clock.minute, second := s.clock.second, room := some r, credential := some p.credential
        station := some (fieldAddress p.reader), repeats := 0, detail := .passback q.room q.entryMinute } }

/-- The state in which the decision goes on after PASSBACK: the alarm, and the departure of the record. -/
def State.readmitted (s : State) (r : RoomId) (p : Presentation) (q : Presence) : State :=
  (s.passbackTold r p q).departed q.room (fun x => x.credential == p.credential) .passback

variable {q : Presence} (once : (s.roll.map Presence.credential).Nodup)

include once

theorem State.readmitted_eq (r : RoomId) (p : Presentation) (q : Presence) : s.readmitted r p q =
    { s with
      slots := (s.readmitted r p q).slots, roll := (s.readmitted r p q).roll, reports := (s.readmitted r p q).reports } :=
  (State.departed_keeps (s := s.passbackTold r p q) once q.room _ .passback).eq_of_roll

theorem State.readmitted_offRoll (inside : s.presenceOf p.credential = some q) : (s.readmitted r p q).offRoll p.credential := by
  have off := State.depart_offRoll (s := s.passbackTold r p q) once inside .passback
  rwa [State.depart_eq (s.passbackTold r p q) _ _ _ once] at off

theorem State.readmitted_party {k : RoomId} {y : Party} (slot : (s.readmitted r p q).slot k = .party y) : s.slot k = .party y := by
  have leaves := LeadMayEnd.depart (s.passbackTold r p q) q.room (fun x => x.credential == p.credential) .passback
  rw [State.depart_eq (s.passbackTold r p q) _ _ _ once] at leaves
  exact leaves.party slot

theorem State.passback_readmits (inside : s.presenceOf p.credential = some q)
    (soft : ¬ ((s.roomSettings r).passback = .hard ∧ (s.room q.room).rollState = .exact)) :
    (s.noted p).passback r p = some ((s.readmitted r p q).noted p) := by
  rw [State.passback_soft (x := s.noted p) inside soft]
  let told : State := s.passbackTold r p q
  have departed : (told.noted p).departOne q .passback = (told.noted p).departed q.room (fun x => x.credential == p.credential) .passback :=
    State.departOne_eq (s := told.noted p) once inside .passback
  exact congrArg some (departed.trans (State.departed_noted (s := told) once p q.room _ .passback))

end

/-- A staff presentation is judged alike in a state of another roll, slots and reports. -/
theorem State.reachesStaff.of_roll {s : State} {r : RoomId} {p : Presentation} {u : Staff} (h : s.reachesStaff r p u)
    (slots : Vector Slot 6) (roll : List Presence) (reports : Reports) :
    ({ s with slots := slots, roll := roll, reports := reports } : State).reachesStaff r p u :=
  ⟨h.place, h.lets, h.valid, h.mode, h.door, h.staff, h.active, h.zone⟩

/-- A contractor's presentation is judged alike in a state of another roll, slots and reports, but for the parties. -/
theorem State.reachesLock.of_roll {s : State} {r : RoomId} {p : Presentation} {w : Permit} (h : s.reachesLock r p w)
    {slots : Vector Slot 6} (parties : ∀ y, look slots r = .party y → s.slot r = .party y) (roll : List Presence)
    (reports : Reports) : ({ s with slots := slots, roll := roll, reports := reports } : State).reachesLock r p w :=
  ⟨h.place, h.lets, h.valid, h.mode, h.door, h.noStaff, h.permit, fun y slot => h.notWaiting y (parties y slot), h.time, h.active⟩

/-- The decision after PASSBACK is the one on the state that it leaves. -/
theorem State.present_readmitted {s : State} {p : Presentation} {r : RoomId} {q : Presence}
    (once : (s.roll.map Presence.credential).Nodup) (inside : s.presenceOf p.credential = some q)
    (soft : ¬ ((s.roomSettings r).passback = .hard ∧ (s.room q.room).rollState = .exact))
    (reaches : (∃ u, s.reachesStaff r p u ∧ (q.room = r → ∀ y, s.slot r ≠ .party y)) ∨
      (∃ w c, s.reachesLock r p w ∧ (w.lock = .off ∨ w.lock = .learn ∨ w.lock = .fixed p.issueLevel) ∧
        chooseGrant s.settings.part (s.room r).zoneIndex s.clock.minute w.grants = some c)) :
    s.present p = (s.readmitted r p q).present p := by
  have passes := State.passback_readmits (r := r) once inside soft
  have off := State.readmitted_offRoll (r := r) once inside
  have is := State.readmitted_eq once r p q
  rcases reaches with ⟨u, staff, apart⟩ | ⟨w, c, lock, accepts, chosen⟩
  · have again : (s.readmitted r p q).reachesStaff r p u := is ▸ staff.of_roll _ _ _
    rw [staff.present_passes (State.collectsFromInside_of_apart inside apart) passes, again.present_offRoll off]
  · have again : (s.readmitted r p q).reachesLock r p w :=
      is ▸ lock.of_roll (fun y slot => State.readmitted_party once slot) _ _
    have chosen' : chooseGrant (s.readmitted r p q).settings.part ((s.readmitted r p q).room r).zoneIndex
        (s.readmitted r p q).clock.minute w.grants = some c := by
      rw [is]
      exact chosen
    rw [lock.present_passes accepts chosen passes,
      again.present_passes accepts chosen' (State.passback_offRoll (x := (s.readmitted r p q).noted p) off)]

/-! ## The entry checks in their order -/

section
variable {s : State} {p : Presentation} {r : RoomId}

theorem State.present_invalid_entry (place : s.placeOf (fieldAddress p.reader) = some (r, .entryReader)) (lets : s.lets p)
    (invalid : validCredential p.credential = false) : s.present p = (s.noted p).denyPlain r p .badCredential := by
  have place : (s.noted p).placeOf (fieldAddress p.reader) = some (r, .entryReader) := place
  rw [State.present_lets lets, State.screen, place]
  exact if_neg (Bool.eq_false_iff.mp invalid)

theorem State.present_invalid_exit (place : s.placeOf (fieldAddress p.reader) = some (r, .exitReader)) (lets : s.lets p)
    (invalid : validCredential p.credential = false) : s.present p = ((s.noted p).release r .exit).issue
      (((s.noted p).release r .exit).presenterVerdict (some (r, .exit)) p .exitUnmatched .badCredential) := by
  have place : (s.noted p).placeOf (fieldAddress p.reader) = some (r, .exitReader) := place
  rw [State.present_lets lets, State.screen, place]
  exact if_neg (Bool.eq_false_iff.mp invalid)

/-- A presentation at an address that is no reader of an enabled room. -/
theorem State.present_unassigned (lets : s.lets p) (no : ∀ r, s.placeOf (fieldAddress p.reader) ≠ some (r, .entryReader) ∧
    s.placeOf (fieldAddress p.reader) ≠ some (r, .exitReader)) : s.present p =
      if validCredential p.credential = true then (s.noted p).unassignedReader p
      else (s.noted p).issue ((s.noted p).presenterVerdict none p .deny .badCredential) := by
  rw [State.present_lets lets, State.screen.eq_def]
  split
  next q place => exact absurd place (no q).1
  next q place => exact absurd place (no q).2
  next => rfl

end

/-! ## Releases (07 R132) -/

/-- A release reads the doors, the settings and the moment alone. -/
theorem State.release_eq_of {x y : State} (settings : y.settings = x.settings) (doors : y.doors = x.doors) (now : y.now = x.now)
    (r : RoomId) (k : Direction) : y.release r k = { y with doors := (x.release r k).doors } := by
  have selected : y.selectedProgram r k = x.selectedProgram r k := by
    cases k <;> simp only [State.selectedProgram, State.roomSettings, settings]
  have program : y.program (y.selectedProgram r k) = x.program (x.selectedProgram r k) := by
    rw [selected, State.program, State.program, settings]
  rcases x.release_cases r k with ⟨empty, eq⟩ | ⟨some_, eq⟩
  · rcases y.release_cases r k with ⟨-, eq'⟩ | ⟨some_, -⟩
    · rw [eq', eq, ← doors]
    · exact absurd (program.trans empty) some_
  · rcases y.release_cases r k with ⟨empty, -⟩ | ⟨-, eq'⟩
    · exact absurd (program.symm.trans empty) some_
    · rw [eq', eq, program, selected]
      simp only [State.setDoor, State.withDoors, State.door, State.roomSettings, settings, doors, now]

/-! ## The checks of each path -/

section
variable {x : State} {r : RoomId} {p : Presentation}

theorem State.decideStaff_inactive {u : Staff} (inactive : u.active = false) :
    x.decideStaff r p u = x.denyPlain r p .escortInactive := by
  rw [State.decideStaff, inactive]
  rfl

theorem State.decideStaff_otherZone {u : Staff} (active : u.active = true) (zone : x.inZone r u.zoneMask = false) :
    x.decideStaff r p u = x.denyPlain r p .wrongZone := by
  rw [State.decideStaff, active, zone]
  rfl

theorem State.decideContractor_barred {w : Permit} {reason : Reason} (waiting : x.waitingHere r p.credential = none)
    (barred : x.contractorBar r w = some reason) :
    x.decideContractor r p w = x.denyContractor r p w.permitNumber none reason := by
  rw [State.decideContractor, waiting]
  simp only [barred]

theorem State.decideContractor_mismatch {w : Permit} {level : Nat} (waiting : x.waitingHere r p.credential = none)
    (bar : x.contractorBar r w = none) (lock : w.lock = .fixed level) (other : level ≠ p.issueLevel) : x.decideContractor r p w =
      (x.denyContractor r p w.permitNumber none .issueMismatch).raise (some r) (some p.credential)
        (some (fieldAddress p.reader)) (.issueConflict p.issueLevel level w.permitNumber) := by
  have mismatch : w.lock.mismatch p.issueLevel = some level := by
    rw [lock]
    exact if_neg (Ne.symm other)
  rw [State.decideContractor, waiting]
  simp only [bar, mismatch]

theorem State.decideContractor_waiting {w : Permit} {m : Member} {size : Nat}
    (waiting : x.waitingHere r p.credential = some (m, size)) : x.decideContractor r p w = x.stillPending r p m size := by
  rw [State.decideContractor, waiting]

theorem State.contractorBar_hold {w : Permit} (hold : (x.room r).mode = .contractorHold) : x.contractorBar r w = some .roomHold :=
  if_pos hold

theorem State.contractorBar_unset {w : Permit} (normal : (x.room r).mode = .normal) (unset : x.clock.timeState = .unset) :
    x.contractorBar r w = some .timeUnknown :=
  (if_neg (by rw [normal]; exact nofun)).trans (if_pos unset)

theorem State.contractorBar_state {w : Permit} (normal : (x.room r).mode = .normal) (time : x.clock.timeState ≠ .unset) :
    x.contractorBar r w = w.state.refusal :=
  (if_neg (by rw [normal]; exact nofun)).trans (if_neg time)

end

/-- Settles O54: the path to each denial, and what PASSBACK leaves. -/
theorem entryChecksInOrder : Obligations.EntryChecksInOrder := by
  refine ⟨fun p last s record same past soon => ?_, fun r p s place lets => ?_, fun r p q permitNumber s inside reaches => ?_,
    fun r p w index reason s reaches accepts unchosen denied => ?_,
    fun r p w y m s place lets valid free noFault noHold noStaff permit slot waits => ?_, fun p s lets => ⟨fun r place invalid => ?_,
      fun no => ⟨fun invalid => ?_, fun valid => ⟨fun forward => ?_, fun drop => ?_⟩⟩⟩⟩
  · exact State.present_suppressed record same (by omega)
  · intro denied isFault
    let x : State := s.noted p
    refine ⟨fun invalid => (State.present_invalid_entry place lets invalid).trans (State.denyPlain_eq x r p .badCredential),
      fun valid => ⟨fun locked => ?_, fun free => ⟨fun fault => ?_, fun sound => ⟨fun noStaff noPermit => ?_, fun u staff => ?_,
        fun w noStaff permit notWaiting => ?_⟩⟩⟩⟩
    all_goals rw [State.present_entry place lets valid]
    · exact (State.decideEntry_locked (x := x) locked).trans (State.denyPlain_eq x r p .roomLocked)
    · exact (State.decideEntry_fault (x := x) free fault).trans (State.denyPlain_eq x r p .doorFault)
    · exact (State.decideEntry_stranger (x := x) free sound noStaff noPermit).trans (State.denyPlain_eq x r p .noPermit)
    · rw [State.decideEntry_staff (x := x) free sound staff]
      exact ⟨fun inactive => (State.decideStaff_inactive (x := x) inactive).trans (State.denyPlain_eq x r p .escortInactive),
        fun active zone => (State.decideStaff_otherZone (x := x) active zone).trans (State.denyPlain_eq x r p .wrongZone)⟩
    · have waiting := State.waitingHere_none (x := x) notWaiting
      have barred {reason : Reason} (bar : x.contractorBar r w = some reason) :=
        (State.decideContractor_barred waiting bar).trans (State.denyContractor_eq x r p reason w.permitNumber none)
      rw [State.decideEntry_contractor (x := x) free sound noStaff permit]
      refine ⟨fun hold => barred (State.contractorBar_hold (x := x) hold), fun normal =>
        ⟨fun unset => barred (State.contractorBar_unset (x := x) normal unset), fun time => ?_⟩⟩
      have bar : x.contractorBar r w = w.state.refusal := State.contractorBar_state (x := x) normal time
      refine ⟨fun suspended => ?_, fun revoked => ?_, fun f active lock other => ?_⟩
      · rw [suspended] at bar
        exact barred bar
      · rw [revoked] at bar
        exact barred bar
      · rw [active] at bar
        rw [State.decideContractor_mismatch waiting bar lock other, State.denyContractor_eq x r p .issueMismatch]
        rfl
  · refine ⟨fun hard exact_ => ?_, fun how once => ?_⟩
    · have denied : (s.noted p).passback r p = none := State.passback_hard (x := s.noted p) inside ⟨hard, exact_⟩
      rcases reaches with ⟨u, staff, rfl, apart⟩ | ⟨w, c, lock, accepts, chosen, rfl⟩
      · exact (staff.present_inside (State.collectsFromInside_of_apart inside apart) denied).trans
          (State.denyPlain_eq (s.noted p) r p .alreadyInside)
      · exact (lock.present_inside accepts chosen denied).trans (State.denyContractor_eq (s.noted p) r p .alreadyInside _ none)
    · have soft : ¬ ((s.roomSettings r).passback = .hard ∧ (s.room q.room).rollState = .exact) := by
        rintro ⟨hard, exact_⟩
        rcases how with soft | uncertain
        · rw [hard] at soft
          cases soft
        · exact uncertain exact_
      refine ⟨State.readmitted_offRoll once inside, State.present_readmitted once inside soft ?_⟩
      rcases reaches with ⟨u, staff, -, apart⟩ | ⟨w, c, lock, accepts, chosen, -⟩
      · exact .inl ⟨u, staff, apart⟩
      · exact .inr ⟨w, c, lock, accepts, chosen⟩
  · exact (reaches.present_unchosen accepts unchosen denied).trans (State.denyContractor_eq (s.noted p) r p reason _ _)
  · have waiting : (s.noted p).waitingHere r p.credential = some (m, y.members.length) := by
      have slot : (s.noted p).slot r = .party y := slot
      rw [State.waitingHere, slot]
      simp only [waits, Option.map_some]
    have sound : ¬ ((s.door r).state = .fault ∨ (s.door r).state = .faultHold) := not_or.mpr ⟨noFault, noHold⟩
    rw [State.present_entry place lets valid, State.decideEntry_contractor (x := s.noted p) free sound noStaff permit,
      State.decideContractor_waiting waiting]
    exact State.issue_pending rfl
  · have released := State.release_eq_of (x := s) (y := s.noted p) rfl rfl rfl r .exit
    rw [State.present_invalid_exit place lets invalid, released]
    have issued := State.issue_showing (r := r) (d := .exit) (image := .granted)
      (x := { s.noted p with doors := (s.release r .exit).doors })
      (v := s.verdictOn p (some (r, .exit)) .exitUnmatched .badCredential) rfl rfl
    exact issued
  · exact (State.present_unassigned lets no).trans ((if_neg (Bool.eq_false_iff.mp invalid)).trans (State.issue_nowhere rfl))
  · refine (State.present_unassigned lets no).trans ((if_pos valid).trans ?_)
    have forward : (s.noted p).settings.part.readerPolicy = .forward := forward
    rw [State.unassignedReader, forward]
    rfl
  · refine (State.present_unassigned lets no).trans ((if_pos valid).trans ?_)
    have drop : (s.noted p).settings.part.readerPolicy = .drop := drop
    rw [State.unassignedReader, drop]

end Sys2Proof.Machine

/-! PROOF. Exit presentations and check-ins (O57). -/

namespace Sys2Proof.Machine

set_option Elab.async false

section
variable {s x : State} {p : Presentation} {r : RoomId} {q : Presence}

theorem put_comm {α : Type} {n : Nat} (v : Vector α n) {i j : Fin n} (apart : i ≠ j) (a b : α) :
    put (put v i a) j b = put (put v j b) i a := by
  refine table_ext fun k => ?_
  rw [look_put, look_put, look_put, look_put]
  by_cases atJ : j = k
  · subst atJ
    rw [if_pos rfl, if_neg apart, if_pos rfl]
  · rw [if_neg atJ, if_neg atJ]

theorem State.present_exit (place : s.placeOf (fieldAddress p.reader) = some (r, .exitReader)) (lets : s.lets p)
    (valid : validCredential p.credential = true) (pass : p.intent = .pass) : s.present p = (s.noted p).decideExit r p := by
  have place : (s.noted p).placeOf (fieldAddress p.reader) = some (r, .exitReader) := place
  rw [State.present_lets lets, State.screen, place]
  refine (if_pos valid).trans ?_
  rw [pass]

theorem State.present_checkIn (place : s.placeOf (fieldAddress p.reader) = some (r, .exitReader)) (lets : s.lets p)
    (valid : validCredential p.credential = true) (checkIn : p.intent = .checkIn) :
    s.present p = (s.noted p).decideCheckIn r p := by
  have place : (s.noted p).placeOf (fieldAddress p.reader) = some (r, .exitReader) := place
  rw [State.present_lets lets, State.screen, place]
  refine (if_pos valid).trans ?_
  rw [checkIn]

/-- An exit as the roll has taken it: the exit program and the verdict on the state left. -/
theorem State.decideExit_eq {y : State} {outcome : VerdictOutcome} {record : Option Presence}
    (taken : x.takeOffRoll r p.credential = (y, outcome, record)) : x.decideExit r p =
      (y.release r .exit).issue (((y.release r .exit).presenterVerdict (some (r, .exit)) p outcome .none).fromRecord record) := by
  rw [State.decideExit, taken]

/-! ## The record leaves (04 R76) -/

theorem State.takeOffRoll_none (off : x.offRoll p.credential) : x.takeOffRoll r p.credential = (x, .exitUnmatched, none) := by
  rw [State.takeOffRoll, State.presenceOf_eq_none.mpr off]

theorem State.takeOffRoll_here (inside : x.presenceOf p.credential = some q) (here : q.room = r) :
    x.takeOffRoll r p.credential = (x.departOne q .exit, .exit, some q) := by
  rw [State.takeOffRoll, inside]
  exact if_pos here

theorem State.takeOffRoll_other (inside : x.presenceOf p.credential = some q) (other : q.room ≠ r) :
    x.takeOffRoll r p.credential = ((x.departOne q .exitOther).setRollState q.room .uncertain, .exitOther, some q) := by
  rw [State.takeOffRoll, inside]
  exact if_neg other

/-- The departure of the record, as the state with the presentation noted leaves it. -/
theorem State.noted_departOne (once : (s.roll.map Presence.credential).Nodup) (inside : s.presenceOf p.credential = some q)
    (cause : DepartureCause) : (s.noted p).departOne q cause = { s.noted p with
      slots := (s.departed q.room (fun x => x.credential == p.credential) cause).slots
      roll := (s.departed q.room (fun x => x.credential == p.credential) cause).roll
      reports := (s.departed q.room (fun x => x.credential == p.credential) cause).reports } := by
  have departed := State.departOne_eq (s := s.noted p) once inside cause
  have keeps := (State.departed_keeps once q.room (fun x => x.credential == p.credential) cause).eq_of_roll
  exact departed.trans ((State.departed_noted once p q.room _ cause).trans (congrArg (fun y : State => y.noted p) keeps))

/-- The exit program and the verdict of an exit with its record. -/
theorem State.exit_issued {y : State} {outcome : VerdictOutcome} (settings : y.settings = s.settings) (doors : y.doors = s.doors)
    (now : y.now = s.now) (clock : y.clock = s.clock) (overlay : overlayOf outcome = some .granted) :
    (y.release r .exit).issue
        (((y.release r .exit).presenterVerdict (some (r, .exit)) p outcome .none).fromRecord (some q)) =
      { y with
        doors := (s.release r .exit).doors
        rooms := y.roomsShowing r .exit .granted
        reports := y.reports.offerRoutine (.verdict
          { s.verdictOn p (some (r, .exit)) outcome .none with
            permitNumber := q.contractor.map ContractorPart.permitNumber
            grantIndex := q.contractor.map ContractorPart.grantIndex
            removed := some (q.room, q.entryMinute) }) } := by
  have verdict : y.verdictOn p (some (r, .exit)) outcome .none = s.verdictOn p (some (r, .exit)) outcome .none := by
    rw [State.verdictOn, State.verdictOn, clock]
  rw [State.release_eq_of settings doors now, ← verdict]
  have issued := State.issue_showing (r := r) (d := .exit) (image := .granted)
    (x := { y with doors := (s.release r .exit).doors })
    (v := { y.verdictOn p (some (r, .exit)) outcome .none with
      permitNumber := q.contractor.map ContractorPart.permitNumber
      grantIndex := q.contractor.map ContractorPart.grantIndex
      removed := some (q.room, q.entryMinute) }) rfl overlay
  exact issued

/-- An overlay shown at a room after the roll state of another has changed. -/
theorem State.roomsShowing_afterOther {k : RoomId} (other : k ≠ r) (state : RollState) :
    (x.setRollState k state).roomsShowing r .exit .granted
      = put (x.roomsShowing r .exit .granted) k { x.room k with rollState := state } := by
  have room : (x.setRollState k state).room r = x.room r := look_put_other _ _ _ _ other
  show put (put x.rooms k _) r { (x.setRollState k state).room r with exitOverlay := _ } = _
  rw [room, put_comm _ other]
  rfl

/-! ## CHECKIN (04 R77) -/

theorem ContractorPart.checkedIn_eq (deadline : Nat) (k : ContractorPart) : k.checkedIn deadline =
    { k with checkInOverdue := 0, checkIn := if k.checkIn = .absent then .absent else .armed deadline } := by
  rw [ContractorPart.checkedIn]
  cases k.checkIn <;> rfl

end

/-- Settles O57: each outcome by the record of the credential. -/
theorem exitsTakeOffTheRoll : Obligations.ExitsTakeOffTheRoll := by
  intro r p s place lets valid once shown verdict
  refine ⟨fun pass => ⟨fun off => ?_, fun q inside => ?_⟩, fun checkIn => ⟨fun q inside here => ?_, fun away => ?_⟩⟩
  · have released := State.release_eq_of (x := s) (y := s.noted p) rfl rfl rfl r .exit
    rw [State.present_exit place lets valid pass, State.decideExit_eq (State.takeOffRoll_none (x := s.noted p) off), released]
    have issued := State.issue_showing (r := r) (d := .exit) (image := .granted)
      (x := { s.noted p with doors := (s.release r .exit).doors }) (v := verdict .exitUnmatched .none) rfl rfl
    exact issued
  · intro left
    have departing := State.depart_eq s q.room (fun x => x.credential == p.credential)
      (if q.room = r then .exit else .exitOther) once
    refine ⟨?_, ?_, fun k other => ?_, ?_⟩
    · rw [State.present_exit place lets valid pass]
      by_cases here : q.room = r
      · have gone := State.noted_departOne once inside .exit
        rw [State.decideExit_eq (State.takeOffRoll_here (x := s.noted p) inside here), gone]
        simp only [left, if_pos here]
        exact State.exit_issued (s := s) rfl rfl rfl rfl rfl
      · have gone := State.noted_departOne once inside .exitOther
        rw [State.decideExit_eq (State.takeOffRoll_other (x := s.noted p) inside here), gone]
        simp only [left, if_neg here]
        let after : State := { s.noted p with slots := left.slots, roll := left.roll, reports := left.reports }
        have issued := State.exit_issued (s := s) (p := p) (r := r) (q := q) (y := after.setRollState q.room .uncertain)
          (outcome := .exitOther) rfl rfl rfl rfl rfl
        rw [State.roomsShowing_afterOther (x := after) here] at issued
        simp only [after, left, if_neg here] at issued
        exact issued
    · have places := State.depart_places once inside (if q.room = r then .exit else .exitOther)
      rwa [departing] at places
    · have slots := (LeadMayEnd.depart s q.room (fun x => x.credential == p.credential)
        (if q.room = r then .exit else .exitOther)).other k other
      rwa [departing] at slots
    · have kept := (Departing.depart s q.room (fun x => x.credential == p.credential)
        (if q.room = r then .exit else .exitOther)).routine
      rw [departing] at kept
      exact kept
  · have inRoom : (s.noted p).insideRoom p.credential r = true := by
      have inside : (s.noted p).presenceOf p.credential = some q := inside
      rw [State.insideRoom, inside]
      exact beq_iff_eq.mpr here
    rw [State.present_checkIn place lets valid checkIn, State.decideCheckIn, if_pos inRoom]
    have changed := funext (ContractorPart.checkedIn_eq (addMinutes s.clock.minute (s.roomSettings r).checkInInterval))
    have issued := State.issue_showing (r := r) (d := .exit) (image := .granted)
      (x := (s.noted p).changeRecord p.credential (ContractorPart.checkedIn (addMinutes s.clock.minute
        (s.roomSettings r).checkInInterval)))
      (v := verdict .checkInOk .none) rfl rfl
    rw [changed] at issued
    refine Eq.trans ?_ issued
    rw [← changed]
    rfl
  · have notHere : ¬ (s.noted p).insideRoom p.credential r = true := by
      rw [State.insideRoom]
      split
      next q inside => exact fun here => away q inside (eq_of_beq here)
      next => exact Bool.false_ne_true
    rw [State.present_checkIn place lets valid checkIn, State.decideCheckIn, if_neg notHere]
    have issued := State.issue_showing (r := r) (d := .exit) (image := .denied) (x := s.noted p)
      (v := verdict .checkInUnmatched .none) rfl rfl
    exact issued

end Sys2Proof.Machine

/-! PROOF. The small operations of a grant, and the contractor who is admitted alone (O55). -/

namespace Sys2Proof.Machine

set_option Elab.async false

/-! ## Grant notices and records (01 R16, 06 R104) -/

section
variable {x : State} {r : RoomId}

theorem Permit.granted_eq (w : Permit) (level minute : Nat) : w.granted level minute = w.afterGrant level minute := by
  rw [Permit.granted, Permit.afterGrant]
  cases w.lock <;> rfl

/-- The permit table after one grant notice. -/
theorem State.grantNotice_eq (x : State) (c level : Nat) : x.grantNotice c level =
    { x with permits := x.permits.map fun w => if w.credential = c then w.afterGrant level x.clock.minute else w } := by
  simp only [State.grantNotice, Permit.granted_eq]
  rfl

theorem State.addRecords_eq (x : State) (r : RoomId) (records : List Presence) :
    x.addRecords r records = { x with roll := x.rollWith r records } := by
  rw [State.addRecords, State.evaluateLone_eq]
  rfl

/-! ## The slots of the other rooms (04 R64, R75, 05 R99) -/

/-- The slots with a change made to all but one. -/
def elsewhere (slots : Vector Slot 6) (r : RoomId) (change : Slot → Slot) : Vector Slot 6 :=
  Vector.ofFn fun q => if q = r then look slots q else change (look slots q)

theorem elsewhere_put (slots : Vector Slot 6) (r : RoomId) (slot : Slot) (change : Slot → Slot) :
    elsewhere (put slots r slot) r change = put (elsewhere slots r change) r slot := by
  refine table_ext fun k => ?_
  simp only [elsewhere, look_ofFn, look_put]
  by_cases here : k = r
  · simp only [if_pos here, if_pos here.symm]
  · simp only [if_neg here, if_neg (Ne.symm here)]

theorem elsewhere_elsewhere (slots : Vector Slot 6) (r : RoomId) (first second : Slot → Slot) :
    elsewhere (elsewhere slots r first) r second = elsewhere slots r fun y => second (first y) := by
  refine table_ext fun k => ?_
  rw [elsewhere, look_ofFn, elsewhere, look_ofFn, elsewhere, look_ofFn]
  split <;> rfl

theorem Slot.without_eq (slot : Slot) (c : Nat) : slot.without c = slot.lessMember c := by
  cases slot with
  | party y =>
    have same : (y.members.any (fun m => m.credential == c) = true) ↔ ∃ m ∈ y.members, m.credential = c := by
      simp only [List.any_eq_true, beq_iff_eq]
    rw [Slot.without, Slot.lessMember]
    by_cases waits : ∃ m ∈ y.members, m.credential = c
    · refine (if_pos (same.mpr waits)).trans (Eq.trans ?_ (if_pos waits).symm)
      cases y.members.filter fun m => m.credential != c <;> rfl
    · exact (if_neg (mt same.mp waits)).trans (if_neg waits).symm
  | _ => rfl

theorem Slot.withoutWaiting_eq (slot : Slot) (staff : Nat) : slot.withoutWaiting staff = slot.lessWaiting staff := by
  cases slot with
  | lead l => exact if_congr and_comm rfl rfl
  | _ => rfl

theorem State.leaveOtherParty_eq (x : State) (r : RoomId) (c : Nat) :
    x.leaveOtherParty r c = { x with slots := elsewhere x.slots r fun y => y.lessMember c } := by
  simp only [State.leaveOtherParty, Slot.without_eq]
  rfl

theorem State.clearWaitingElsewhere_eq (x : State) (r : RoomId) (staff : Nat) :
    x.clearWaitingElsewhere r staff = { x with slots := elsewhere x.slots r fun y => y.lessWaiting staff } := by
  simp only [State.clearWaitingElsewhere, Slot.withoutWaiting_eq]
  rfl

/-! ## The occupancy check (04 R74) -/

theorem State.noPlaceFor_none {n : Nat} (room : x.roomCount r + n ≤ (x.roomSettings r).occupancyLimit)
    (roll : x.roll.length + n ≤ 64) : x.noPlaceFor r n = none :=
  (if_neg (Nat.not_lt.mpr room)).trans (if_neg (Nat.not_lt.mpr roll))

theorem State.noPlaceFor_some {n : Nat}
    (full : (x.roomSettings r).occupancyLimit < x.roomCount r + n ∨ 64 < x.roll.length + n) : x.noPlaceFor r n =
      some (if (x.roomSettings r).occupancyLimit < x.roomCount r + n then .roomFull else .rollFull) := by
  rw [State.noPlaceFor]
  split
  next => rfl
  next place => exact if_pos (full.resolve_left place)

end

/-! ## A contractor's grant (04 R75) -/

section
variable {x : State} {r : RoomId} {p : Presentation} {w : Permit} {c : Chosen}

theorem State.noted_release_doors (s : State) (p : Presentation) (r : RoomId) (k : Direction) :
    ((s.noted p).release r k).doors = (s.release r k).doors :=
  (congrArg State.doors (State.release_eq_of (x := s) (y := s.noted p) rfl rfl rfl r k)).trans rfl

/-- The release of a room after people have gone in. -/
theorem State.release_entering (x : State) (roll : List Presence) (permits : List Permit) (slots : Vector Slot 6) (r : RoomId)
    (k : Direction) : ({ x with roll := roll, permits := permits, slots := slots } : State).release r k =
      { x with roll := roll, permits := permits, slots := slots, doors := (x.release r k).doors } :=
  State.release_eq_of (x := x) (y := { x with roll := roll, permits := permits, slots := slots }) rfl rfl rfl r k

/-- The six effects of a grant. -/
theorem State.grantContractor_eq (x : State) (r : RoomId) (p : Presentation) (w : Permit) (c : Chosen) (escort : Option Nat) :
    x.grantContractor r p w c escort =
      { x with
        roll := x.rollWith r [x.entrant r (p.asMember w c) escort none]
        permits := x.noticed [p.asMember w c]
        slots := elsewhere x.slots r fun y => y.lessMember p.credential
        doors := (x.release r .entry).doors
        rooms := x.roomsShowing r .entry .granted
        reports := x.reports.offerRoutine (.verdict
          { x.verdictOn p (some (r, .entry)) .grant .none with
            permitNumber := some w.permitNumber, grantIndex := some c.index
            escort := escort, allowance := some c.allowance }) } := by
  let before : State := ((x.addRecords r [x.presenterPresence r p w c escort none]).grantNotice p.credential
    p.issueLevel).leaveOtherParty r p.credential
  have is : before = { x with
      roll := x.rollWith r [x.entrant r (p.asMember w c) escort none]
      permits := x.noticed [p.asMember w c]
      slots := elsewhere x.slots r fun y => y.lessMember p.credential } := by
    simp only [before, State.addRecords_eq, State.grantNotice_eq, State.leaveOtherParty_eq]
    rfl
  have ran : x.grantContractor r p w c escort = (before.release r .entry).issue
      { (before.release r .entry).contractorVerdict r p w c .grant .none with allowance := some c.allowance, escort := escort } := rfl
  rw [ran, is, State.release_entering]
  exact State.issue_showing (r := r) (d := .entry) (image := .granted) rfl rfl

theorem State.admitContractor_grants (escort : Option Nat) (room : x.roomCount r + 1 ≤ (x.roomSettings r).occupancyLimit)
    (roll : x.roll.length + 1 ≤ 64) : x.admitContractor r p w c escort = x.grantContractor r p w c escort := by
  rw [State.admitContractor, State.noPlaceFor_none room roll]

theorem State.admitContractor_denies (escort : Option Nat)
    (full : (x.roomSettings r).occupancyLimit < x.roomCount r + 1 ∨ 64 < x.roll.length + 1) : x.admitContractor r p w c escort =
      x.denial r p (if (x.roomSettings r).occupancyLimit < x.roomCount r + 1 then .roomFull else .rollFull)
        (some w.permitNumber) (some c.index) := by
  rw [State.admitContractor, State.noPlaceFor_some full]
  exact State.denyChosen_eq ..

/-- Rule NONE needs no company, but at a PAIR party of the firm. -/
theorem State.escortHandling_alone (none : c.rule = .none) (noPair : ∀ y, x.slot r = .party y → y.rule ≠ .pair w.company) :
    x.escortHandling r p w c = x.admitContractor r p w c .none := by
  rw [State.escortHandling, none]
  cases slot : x.slot r with
  | party y => exact if_neg (noPair y slot)
  | _ => rfl

/-! ## The roll with one contractor more (06 R104, R110) -/

theorem mem_rollWith_other {s : State} {records : List Presence} {q : Presence} (mem : q ∈ s.roll) (other : q.room ≠ r) :
    q ∈ s.rollWith r records :=
  List.mem_map.mpr ⟨q, List.mem_append_left _ mem, if_neg other⟩

/-- The check-in of a contractor alone in a room of an interval. -/
def firstCheckIn (interval minute : Nat) : CheckIn := if 0 < interval then .armed (min (minute + interval) 4294967295) else .absent

theorem ContractorPart.afterLone_first {k : ContractorPart} (absent : k.checkIn = .absent) (zero : k.checkInOverdue = 0)
    (interval minute : Nat) : k.afterLone (decide (0 < interval)) (min (minute + interval) 4294967295)
      = { k with checkIn := firstCheckIn interval minute } := by
  obtain ⟨_, _, _, _, _, _, _, _, _, _, _, _⟩ := k
  cases absent
  cases zero
  rw [firstCheckIn]
  by_cases watches : 0 < interval
  · rw [decide_eq_true watches, if_pos watches]
    rfl
  · rw [decide_eq_false watches, if_neg watches]
    rfl

/-- A contractor who enters an empty room is lone there. -/
theorem rollWith_first {s : State} {record : Presence} {k : ContractorPart} (empty : s.roomCount r = 0)
    (is : record = { record with room := r, contractor := some k }) (fresh : k.checkIn = .absent ∧ k.checkInOverdue = 0) :
    s.rollWith r [record] = s.roll ++ [{ record with contractor := some { k with
      checkIn := firstCheckIn (s.roomSettings r).checkInInterval s.clock.minute } }] := by
  have nobody (q : Presence) (mem : q ∈ s.roll) : q.room ≠ r := by
    have none : s.recordsOf r = [] := List.length_eq_zero_iff.mp empty
    intro here
    have inRoom : q ∈ s.recordsOf r := List.mem_filter.mpr ⟨mem, beq_iff_eq.mpr here⟩
    rw [none] at inRoom
    cases inRoom
  obtain ⟨absent, zero⟩ := fresh
  have others : (s.roll.map fun q => if q.room = r then
      { q with contractor := q.contractor.map (ContractorPart.afterLone
        (loneIn (s.roomSettings r).checkInInterval r (s.roll ++ [record]))
        (min (s.clock.minute + (s.roomSettings r).checkInInterval) 4294967295)) } else q) = s.roll := by
    rw [List.map_congr_left fun q mem => if_neg (nobody q mem), List.map_id']
  have contractors : (s.roll.filter fun q => q.room == r && q.contractor.isSome) = [] :=
    List.filter_eq_nil_iff.mpr fun q mem both => nobody q mem (eq_of_beq (Bool.and_eq_true_iff.mp both).1)
  have staff : (s.roll.any fun q => q.room == r && q.contractor.isNone) = false :=
    List.any_eq_false.mpr fun q mem both => nobody q mem (eq_of_beq (Bool.and_eq_true_iff.mp both).1)
  have lone : loneIn (s.roomSettings r).checkInInterval r (s.roll ++ [record])
      = decide (0 < (s.roomSettings r).checkInInterval) := by
    rw [loneIn, List.filter_append, contractors, List.any_append, staff, is]
    simp
  rw [State.rollWith, rollEvaluated, List.map_append, others, lone, is]
  simp only [List.map_cons, List.map_nil, if_true, Option.map_some, ContractorPart.afterLone_first absent zero]

end

/-- Settles O55: the occupancy check, and then the six effects of a grant. -/
theorem contractorIsAdmittedAlone : Obligations.ContractorIsAdmittedAlone := by
  intro r p w c s reaches chosen none noPair limit interval verdict part record
  have ran := reaches.present_eq chosen
  rw [State.escortHandling_alone (x := s.noted p) none noPair] at ran
  refine ⟨fun room places => ?_, fun full => ?_⟩
  · intro roll
    rw [State.admitContractor_grants (x := s.noted p) .none room places, State.grantContractor_eq] at ran
    refine ⟨ran.trans ?_, fun q mem other => mem_rollWith_other mem other, fun empty => ?_⟩
    · have entrant : (s.noted p).entrant r (p.asMember w c) .none .none = record part := by
        rw [State.entrant, Presentation.asMember, none]
        rfl
      rw [entrant, State.noted_release_doors]
      rfl
    · exact rollWith_first empty rfl ⟨rfl, rfl⟩
  · have beyond : limit < s.roomCount r + 1 ∨ 64 < s.roll.length + 1 := full.imp Nat.lt_succ_of_le Nat.lt_succ_of_le
    have reason : (if limit < s.roomCount r + 1 then Reason.roomFull else .rollFull)
        = if limit ≤ s.roomCount r then .roomFull else .rollFull := if_congr Nat.lt_succ_iff rfl rfl
    rw [State.admitContractor_denies (x := s.noted p) .none beyond] at ran
    exact ran.trans (congrArg (fun reason => (s.noted p).denial r p reason (some w.permitNumber) (some c.index)) reason)

end Sys2Proof.Machine

/-! PROOF. What a contractor does who needs company: parties that form, pairs, and leads (05 R83 to R87, 04 R72). -/

namespace Sys2Proof.Machine

set_option Elab.async false

section
variable {x : State} {r : RoomId} {p : Presentation} {w : Permit} {c : Chosen}

/-- A verdict about a contractor under the chosen grant. -/
def State.aboutChosen (x : State) (r : RoomId) (p : Presentation) (w : Permit) (c : Chosen) (outcome : VerdictOutcome)
    (reason : Reason) : Verdict :=
  { x.verdictOn p (some (r, .entry)) outcome reason with permitNumber := some w.permitNumber, grantIndex := some c.index }

/-! ## The rules of the escort handling (04 R71 to R73) -/

theorem State.escortHandling_lead {l : Lead} (needs : c.rule ≠ .none) (slot : x.slot r = .lead l) :
    x.escortHandling r p w c = x.meetLead r p w c l := by
  rw [State.escortHandling]
  cases rule : c.rule with
  | none => exact absurd rule needs
  | _ => simp only [slot]

theorem State.escortHandling_noLead (needs : c.rule ≠ .none) (slot : ∀ l, x.slot r ≠ .lead l) :
    x.escortHandling r p w c = x.partyHandling r p w c := by
  rw [State.escortHandling]
  cases rule : c.rule with
  | none => exact absurd rule needs
  | _ =>
    cases is : x.slot r with
    | lead l => exact absurd is (slot l)
    | _ => rfl

theorem State.meetLead_useless {l : Lead} (useless : x.cannotUse r l) : x.meetLead r p w c l = x.partyHandling r p w c := by
  rw [State.meetLead]
  cases staff : x.staffOf l.staff with
  | none => rfl
  | some u =>
    cases active : u.active with
    | false => simp only [active]; rfl
    | true =>
      obtain ⟨entered, why⟩ := useless u staff active
      have not_ : ¬ (x.insideRoom l.staff r && decide (x.linkedCount l.staff < u.ratio)) = true := by
        rw [Bool.and_eq_true, decide_eq_true_iff]
        rintro ⟨inside, place⟩
        rcases why with away | full
        · rw [State.insideRoom] at inside
          split at inside
          next q is => exact away q is (eq_of_beq inside)
          next => cases inside
        · omega
      simp only [active, entered]
      exact if_neg not_

theorem State.meetLead_entered {l : Lead} {u : Staff} (staff : x.staffOf l.staff = some u) (active : u.active = true)
    (entered : l.kind = .entered) {q : Presence} (inside : x.presenceOf l.staff = some q) (here : q.room = r)
    (place : x.linkedCount l.staff < u.ratio) : x.meetLead r p w c l = x.admitContractor r p w c (some l.staff) := by
  have can : (x.insideRoom l.staff r && decide (x.linkedCount l.staff < u.ratio)) = true := by
    rw [Bool.and_eq_true, decide_eq_true_iff, State.insideRoom, inside]
    exact ⟨beq_iff_eq.mpr here, place⟩
  rw [State.meetLead, staff]
  simp only [active, entered]
  exact if_pos can

theorem State.meetLead_waiting {l : Lead} {u : Staff} (staff : x.staffOf l.staff = some u) (active : u.active = true)
    (waiting : l.kind = .waiting) : x.meetLead r p w c l = x.completeLead r p w c l := by
  rw [State.meetLead, staff]
  simp only [active, waiting]
  rfl

theorem State.partyHandling_party {y : Party} (slot : x.slot r = .party y) : x.partyHandling r p w c = x.joinParty r p w c y := by
  rw [State.partyHandling, slot]

theorem State.partyHandling_start (slot : ∀ y, x.slot r ≠ .party y) : x.partyHandling r p w c = x.startParty r p w c := by
  rw [State.partyHandling]
  split
  next y is => exact absurd is (slot y)
  next => rfl

/-! ## A party started or joined (05 R83, R84) -/

/-- A slot set for the contractor, who leaves any other party and is PENDING. -/
theorem State.issuePending_eq (x : State) (slot : Slot) (size : Nat) :
    ((x.setSlot r slot).leaveOtherParty r p.credential).issuePending r p w c size =
      { x with
        slots := put (elsewhere x.slots r fun y => y.lessMember p.credential) r slot
        reports := x.reports.offerRoutine (.verdict
          { x.aboutChosen r p w c .pending .none with allowance := some c.allowance, partySize := some size }) } := by
  have slots : elsewhere (x.setSlot r slot).slots r (fun y => y.lessMember p.credential)
      = put (elsewhere x.slots r fun y => y.lessMember p.credential) r slot := elsewhere_put x.slots r slot _
  rw [State.leaveOtherParty_eq, slots]
  exact State.issue_pending rfl

theorem State.startParty_eq (x : State) (r : RoomId) (p : Presentation) (w : Permit) (c : Chosen) : x.startParty r p w c =
    { x with
      slots := put (elsewhere x.slots r fun y => y.lessMember p.credential) r (.party
        { rule := if c.rule = .pair then .pair w.company else .staff
          members := [p.asMember w c]
          window := countdownFrom x.now (x.settings.part.escortWindow * 1000) })
      reports := x.reports.offerRoutine (.verdict
        { x.aboutChosen r p w c .pending .none with allowance := some c.allowance, partySize := some 1 }) } :=
  State.issuePending_eq x _ 1

theorem State.joinParty_place {y : Party} (staff : y.rule = .staff) (place : y.members.length < 4) : x.joinParty r p w c y =
    { x with
      slots := put (elsewhere x.slots r fun y => y.lessMember p.credential) r
        (.party { y with members := y.members ++ [p.asMember w c] })
      reports := x.reports.offerRoutine (.verdict
        { x.aboutChosen r p w c .pending .none with
          allowance := some c.allowance, partySize := some (y.members.length + 1) }) } := by
  rw [State.joinParty, staff]
  exact (if_pos place).trans (State.issuePending_eq x _ _)

theorem State.joinParty_full {y : Party} (staff : y.rule = .staff) (full : 4 ≤ y.members.length) :
    x.joinParty r p w c y = x.denial r p .partyFull (some w.permitNumber) (some c.index) := by
  rw [State.joinParty, staff]
  exact (if_neg (Nat.not_lt.mpr full)).trans (State.denyChosen_eq ..)

theorem State.joinParty_busy {y : Party} {company : Nat} (pair : y.rule = .pair company)
    (other : ¬ (c.rule = .pair ∧ w.company = company)) :
    x.joinParty r p w c y = x.denial r p .partyBusy (some w.permitNumber) (some c.index) := by
  rw [State.joinParty, pair]
  exact (if_neg other).trans (State.denyChosen_eq ..)

/-- A second contractor of the firm meets the one who waits. -/
theorem State.escortHandling_pair {y : Party} {m : Member} (slot : x.slot r = .party y) (pair : y.rule = .pair w.company)
    (one : y.members = [m]) (rule : c.rule ≠ .staff) : x.escortHandling r p w c = x.completePair r p w c m 1 := by
  have joined : x.joinPair r p w c y = x.completePair r p w c m 1 := by rw [State.joinPair, one]; rfl
  cases is : c.rule with
  | none =>
    rw [State.escortHandling, is, slot]
    exact (if_pos pair).trans joined
  | pair =>
    have needs : c.rule ≠ .none := by rw [is]; exact nofun
    rw [State.escortHandling_noLead needs (fun l => by rw [slot]; exact nofun), State.partyHandling_party slot, State.joinParty, pair]
    exact (if_pos ⟨is, rfl⟩).trans joined
  | staff => exact absurd is rule

/-! ## Grant notices of several -/

theorem State.noticeMembers_eq (x : State) (members : List Member) :
    x.noticeMembers members = { x with permits := x.noticed members } := by
  induction members generalizing x with
  | nil => rfl
  | cons m members ih =>
    have rest := ih (x.grantNotice m.credential m.issueLevel)
    rw [State.grantNotice_eq] at rest
    refine Eq.trans ?_ rest
    rw [← State.grantNotice_eq]
    rfl

/-! ## A pair completed (05 R86, R87) -/

theorem State.completePair_denies {m : Member} {size : Nat}
    (full : (x.roomSettings r).occupancyLimit < x.roomCount r + 2 ∨ 64 < x.roll.length + 2) : x.completePair r p w c m size =
      { x with
        slots := put x.slots r .empty
        rooms := x.roomsShowing r .entry .denied
        reports := x.reports.offerVerdicts
          [x.verdictOfMember r m size .deny (if (x.roomSettings r).occupancyLimit < x.roomCount r + 2 then .roomFull else .rollFull),
           { x.aboutChosen r p w c .deny (if (x.roomSettings r).occupancyLimit < x.roomCount r + 2 then .roomFull else .rollFull) with
             partySize := some size }] } := by
  rw [State.completePair, State.noPlaceFor_some full]
  exact State.issue_both (x := x.setSlot r .empty) (r := r) (d := .entry) (first := .denied) (image := .denied) rfl rfl rfl rfl

theorem State.completePair_grants {m : Member} {size : Nat} (room : x.roomCount r + 2 ≤ (x.roomSettings r).occupancyLimit)
    (roll : x.roll.length + 2 ≤ 64) : x.completePair r p w c m size =
      { x with
        roll := x.rollWith r [x.entrant r m none (some p.credential), x.entrant r (p.asMember w c) none (some m.credential)]
        permits := x.noticed [m, p.asMember w c]
        slots := put (elsewhere x.slots r fun y => y.lessMember p.credential) r .empty
        doors := (x.release r .entry).doors
        rooms := x.roomsShowing r .entry .granted
        reports := x.reports.offerVerdicts
          [{ x.verdictOfMember r m size .grant .none with escort := some p.credential, allowance := some m.allowance },
           { x.aboutChosen r p w c .grant .none with
             escort := some m.credential, allowance := some c.allowance, partySize := some size }] } := by
  let before : State := ((((x.addRecords r
      [x.memberPresence r m none (some p.credential), x.presenterPresence r p w c none (some m.credential)]).grantNotice
    m.credential m.issueLevel).grantNotice p.credential p.issueLevel).setSlot r .empty).leaveOtherParty r p.credential
  have is : before = { x with
      roll := x.rollWith r [x.entrant r m none (some p.credential), x.entrant r (p.asMember w c) none (some m.credential)]
      permits := x.noticed [m, p.asMember w c]
      slots := put (elsewhere x.slots r fun y => y.lessMember p.credential) r .empty } := by
    simp only [before, State.addRecords_eq, State.grantNotice_eq, State.leaveOtherParty_eq, State.setSlot, State.withSlots,
      elsewhere_put]
    rfl
  have ran : x.completePair r p w c m size = ((before.release r .entry).issue ((before.release r .entry).memberGrant r m size p.credential)).issue
      { ((before.release r .entry).issue ((before.release r .entry).memberGrant r m size p.credential)).contractorVerdict r p w c .grant .none with
        allowance := some c.allowance, escort := some m.credential, partySize := some size } := by
    rw [State.completePair, State.noPlaceFor_none room roll]
  rw [ran, is, State.release_entering]
  exact State.issue_both (r := r) (d := .entry) (first := .granted) (image := .granted) rfl rfl rfl rfl

/-! ## A WAITING lead completed (04 R72) -/

theorem State.completeLead_denies {l : Lead}
    (full : (x.roomSettings r).occupancyLimit < x.roomCount r + 2 ∨ 64 < x.roll.length + 2) : x.completeLead r p w c l =
      x.denial r p (if (x.roomSettings r).occupancyLimit < x.roomCount r + 2 then .roomFull else .rollFull)
        (some w.permitNumber) (some c.index) := by
  rw [State.completeLead, State.noPlaceFor_some full]
  exact State.denyChosen_eq ..

/-- The verdict of the Party Unit for a member of staff who waited as a lead. -/
def State.leadGrant (x : State) (r : RoomId) (l : Lead) : Verdict :=
  { minute := x.clock.minute, second := x.clock.second, stale := x.clock.timeState == .stale, place := some (r, .entry)
    reader := (x.roomSettings r).entryReader, credential := l.staff, issueLevel := l.issueLevel, intent := none
    outcome := .grant, reason := .none, permitNumber := none, grantIndex := none, escort := none, allowance := none
    partySize := none, removed := none }

theorem State.completeLead_grants {l : Lead} (room : x.roomCount r + 2 ≤ (x.roomSettings r).occupancyLimit)
    (roll : x.roll.length + 2 ≤ 64) : x.completeLead r p w c l =
      { x with
        roll := x.rollWith r [x.staffEntrant r l.staff, x.entrant r (p.asMember w c) (some l.staff) none]
        permits := x.noticed [p.asMember w c]
        slots := put (elsewhere x.slots r fun y => (y.lessMember p.credential).lessWaiting l.staff) r
          (x.freshLead l.staff .entered l.issueLevel)
        doors := (x.release r .entry).doors
        rooms := x.roomsShowing r .entry .granted
        reports := x.reports.offerVerdicts
          [x.leadGrant r l,
           { x.aboutChosen r p w c .grant .none with escort := some l.staff, allowance := some c.allowance }] } := by
  let before : State := ((((x.addRecords r [x.staffPresence r l.staff, x.presenterPresence r p w c (some l.staff) none]).grantNotice
    p.credential p.issueLevel).leaveOtherParty r p.credential).openLead r l.staff .entered l.issueLevel).clearWaitingElsewhere r l.staff
  have is : before = { x with
      roll := x.rollWith r [x.staffEntrant r l.staff, x.entrant r (p.asMember w c) (some l.staff) none]
      permits := x.noticed [p.asMember w c]
      slots := put (elsewhere x.slots r fun y => (y.lessMember p.credential).lessWaiting l.staff) r
        (x.freshLead l.staff .entered l.issueLevel) } := by
    simp only [before, State.addRecords_eq, State.grantNotice_eq, State.leaveOtherParty_eq, State.openLead, State.setSlot,
      State.withSlots, State.clearWaitingElsewhere_eq, elsewhere_put, elsewhere_elsewhere]
    rfl
  let after : State := before.release r .entry
  have ran : x.completeLead r p w c l =
      (after.issue (after.verdict (some (r, .entry)) (after.roomSettings r).entryReader l.staff l.issueLevel none .grant .none)).issue
      { (after.issue (after.verdict (some (r, .entry)) (after.roomSettings r).entryReader l.staff l.issueLevel none .grant
          .none)).contractorVerdict r p w c .grant .none with
        allowance := some c.allowance, escort := some l.staff } := by
    rw [State.completeLead, State.noPlaceFor_none room roll]
  have released : after = { x with
      roll := x.rollWith r [x.staffEntrant r l.staff, x.entrant r (p.asMember w c) (some l.staff) none]
      permits := x.noticed [p.asMember w c]
      slots := put (elsewhere x.slots r fun y => (y.lessMember p.credential).lessWaiting l.staff) r
        (x.freshLead l.staff .entered l.issueLevel)
      doors := (x.release r .entry).doors } := (congrArg (fun y : State => y.release r .entry) is).trans (State.release_entering ..)
  rw [ran, released]
  exact State.issue_both (r := r) (d := .entry) (first := .granted) (image := .granted) rfl rfl rfl rfl

end

end Sys2Proof.Machine

/-! PROOF. What a member of staff does at a slot: going in alone, waiting as a lead, and collecting a party (04 R63, 05 R88 to R90),
and the decisions that need company as a whole (O56). -/

namespace Sys2Proof.Machine

set_option Elab.async false

section
variable {x : State} {r : RoomId} {p : Presentation} {u : Staff}

/-! ## Without a party (04 R63, R64) -/

theorem State.decideStaffSlot_open (slot : x.slot r = .empty ∨ ∃ l, x.slot r = .lead l ∧ (l.kind = .entered ∨ l.staff = p.credential)) :
    x.decideStaffSlot r p u = if u.mayEnterAlone = true then x.admitStaff r p true else x.waitAsLead r p := by
  rw [State.decideStaffSlot]
  rcases slot with empty | ⟨l, lead, own⟩
  · rw [empty]
  · have free : ¬ (l.kind = .waiting ∧ l.staff ≠ p.credential) := by
      rintro ⟨waiting, other⟩
      rcases own with entered | own
      · rw [waiting] at entered
        cases entered
      · exact other own
    rw [lead]
    exact if_neg free

theorem State.decideStaffSlot_taken {l : Lead} (lead : x.slot r = .lead l) (waiting : l.kind = .waiting)
    (other : l.staff ≠ p.credential) : x.decideStaffSlot r p u =
      if u.mayEnterAlone = true then x.admitStaff r p false else x.denyPlain r p .partyBusy := by
  rw [State.decideStaffSlot, lead]
  exact if_pos ⟨waiting, other⟩

theorem State.decideStaffSlot_party {y : Party} (slot : x.slot r = .party y) :
    x.decideStaffSlot r p u = x.staffCompletion r p u y := by
  rw [State.decideStaffSlot, slot]

theorem State.waitAsLead_eq (x : State) (r : RoomId) (p : Presentation) : x.waitAsLead r p =
    { x with
      slots := put (elsewhere x.slots r fun y => y.lessWaiting p.credential) r (x.freshLead p.credential .waiting p.issueLevel)
      reports := x.reports.offerRoutine (.verdict (x.verdictOn p (some (r, .entry)) .pendingLead .none)) } := by
  have slots : elsewhere (x.openLead r p.credential .waiting p.issueLevel).slots r (fun y => y.lessWaiting p.credential)
      = put (elsewhere x.slots r fun y => y.lessWaiting p.credential) r (x.freshLead p.credential .waiting p.issueLevel) :=
    elsewhere_put x.slots r _ _
  rw [State.waitAsLead, State.clearWaitingElsewhere_eq, slots]
  exact State.issue_pending rfl

theorem State.admitStaff_denies (lead : Bool)
    (full : (x.roomSettings r).occupancyLimit < x.roomCount r + 1 ∨ 64 < x.roll.length + 1) : x.admitStaff r p lead =
      x.denial r p (if (x.roomSettings r).occupancyLimit < x.roomCount r + 1 then .roomFull else .rollFull) none none := by
  rw [State.admitStaff, State.noPlaceFor_some full]
  exact State.denyPlain_eq ..

theorem State.admitStaff_grants (lead : Bool) (room : x.roomCount r + 1 ≤ (x.roomSettings r).occupancyLimit)
    (roll : x.roll.length + 1 ≤ 64) : x.admitStaff r p lead =
      { x with
        roll := x.rollWith r [x.staffEntrant r p.credential]
        slots := if lead = true then
            put (elsewhere x.slots r fun y => y.lessWaiting p.credential) r (x.freshLead p.credential .entered p.issueLevel)
          else elsewhere x.slots r fun y => y.lessWaiting p.credential
        doors := (x.release r .entry).doors
        rooms := x.roomsShowing r .entry .granted
        reports := x.reports.offerRoutine (.verdict (x.verdictOn p (some (r, .entry)) .grant .none)) } := by
  let slots : Vector Slot 6 := if lead = true then
      put (elsewhere x.slots r fun y => y.lessWaiting p.credential) r (x.freshLead p.credential .entered p.issueLevel)
    else elsewhere x.slots r fun y => y.lessWaiting p.credential
  let before : State := ((if lead = true then (x.addRecords r [x.staffPresence r p.credential]).openLead r p.credential .entered p.issueLevel
    else x.addRecords r [x.staffPresence r p.credential]).clearWaitingElsewhere r p.credential)
  have is : before = { x with roll := x.rollWith r [x.staffEntrant r p.credential], permits := x.permits, slots := slots } := by
    cases lead with
    | true =>
      simp only [before, slots, if_true, State.addRecords_eq, State.openLead, State.setSlot, State.withSlots,
        State.clearWaitingElsewhere_eq, elsewhere_put]
      rfl
    | false =>
      simp only [before, slots, State.addRecords_eq, State.clearWaitingElsewhere_eq]
      rfl
  have ran : x.admitStaff r p lead
      = (before.release r .entry).issue ((before.release r .entry).presenterVerdict (some (r, .entry)) p .grant .none) := by
    rw [State.admitStaff, State.noPlaceFor_none room roll]
    rfl
  rw [ran, is, State.release_entering]
  exact State.issue_showing (r := r) (d := .entry) (image := .granted) rfl rfl

/-! ## The members' verdicts of a completion (05 R88, R89) -/

/-- The verdict of the member at a position, counted from 0. -/
def State.completionVerdict (x : State) (r : RoomId) (staff size released : Nat) (b : CompletionBounds) (i : Nat) (m : Member) : Verdict :=
  if i < released then
    { x.verdictOfMember r m size .grant .none with escort := some staff, allowance := some m.allowance }
  else
    x.verdictOfMember r m size .deny (if b.ratio ≤ i then .escortRatio else if b.room ≤ i then .roomFull else .rollFull)

theorem State.completionVerdicts_eq (x : State) (r : RoomId) (staff size released : Nat) (b : Places) (members : List Member) (i : Nat)
    (some_ : members ≠ []) : x.completionVerdicts r size released b staff (i + 1) members =
      { x with
        rooms := x.roomsShowing r .entry (if i + members.length ≤ released then .granted else .denied)
        reports := x.reports.offerVerdicts
          (members.mapIdx fun j m => x.completionVerdict r staff size released ⟨b.ratio, b.room, b.roll⟩ (i + j) m) } := by
  induction members generalizing x i with
  | nil => exact absurd rfl some_
  | cons m members ih =>
    let v := x.completionVerdict r staff size released ⟨b.ratio, b.room, b.roll⟩ i m
    have image : overlayOf v.outcome = some (if i < released then .granted else .denied) := by
      simp only [v, State.completionVerdict]
      by_cases within_ : i < released
      · rw [if_pos within_, if_pos within_]; rfl
      · rw [if_neg within_, if_neg within_]; rfl
    have place : v.place = some (r, .entry) := by
      simp only [v, State.completionVerdict]
      split <;> rfl
    have first : (if i + 1 ≤ released then x.memberGrant r m size staff
        else x.memberVerdict r m size .deny (b.reason (i + 1))) = v := by
      simp only [v, State.completionVerdict, Places.reason, Nat.lt_succ_iff]
      rfl
    have issued := State.issue_showing (x := x) place image
    rw [State.completionVerdicts]
    simp only [first, issued]
    cases members with
    | nil =>
      have last : (i + [m].length ≤ released) = (i < released) := rfl
      simp only [last]
      rfl
    | cons m' members =>
      let y : State := { x with
        rooms := x.roomsShowing r .entry (if i < released then .granted else .denied)
        reports := x.reports.offerRoutine (.verdict v) }
      have rest := ih y (i + 1) (List.cons_ne_nil _ _)
      have again : y.roomsShowing r .entry (if i + 1 + (m' :: members).length ≤ released then .granted else .denied)
          = x.roomsShowing r .entry (if i + (m :: m' :: members).length ≤ released then .granted else .denied) := by
        rw [State.roomsShowing_again (x := x) (y := y) rfl rfl, List.length_cons (a := m), Nat.add_assoc, Nat.add_comm 1]
      have verdicts : ((m' :: members).mapIdx fun j m => y.completionVerdict r staff size released ⟨b.ratio, b.room, b.roll⟩ (i + 1 + j) m)
          = (m' :: members).mapIdx fun j m => x.completionVerdict r staff size released ⟨b.ratio, b.room, b.roll⟩ (i + (j + 1)) m :=
        congrArg (List.mapIdx · _) (funext fun j => by rw [Nat.add_assoc, Nat.add_comm 1]; rfl)
      rw [again, verdicts] at rest
      rw [List.mapIdx_cons]
      exact rest

/-! ## A party collected (05 R88 to R90) -/

theorem State.completionPlaces_eq (x : State) (r : RoomId) (u : Staff) (taken : Nat) : x.completionPlaces r u taken =
    ⟨(x.completionBounds r u taken).ratio, (x.completionBounds r u taken).room, (x.completionBounds r u taken).roll⟩ := by
  rw [State.completionPlaces, State.completionBounds, Nat.sub_sub, Nat.sub_sub]
  rfl

theorem Places.released_eq (b : CompletionBounds) (size : Nat) : Places.released ⟨b.ratio, b.room, b.roll⟩ size = b.count size :=
  (Nat.min_assoc _ _ _).symm

theorem CompletionBounds.count_le (b : CompletionBounds) (size : Nat) : b.count size ≤ size :=
  (Nat.min_le_right _ _).trans (Nat.min_le_right _ _)

/-- The state in which those of a completion have gone in: the roll, the notices, the ENTERED lead and the entry program. -/
def State.collected (x : State) (r : RoomId) (p : Presentation) (records : List Presence) (goingIn : List Member) (opens : Bool) : State :=
  { x with
    roll := x.rollWith r records
    permits := x.noticed goingIn
    slots := put (elsewhere x.slots r fun y => y.lessWaiting p.credential) r (x.freshLead p.credential .entered p.issueLevel)
    doors := if opens = true then (x.release r .entry).doors else x.doors }

theorem State.collected_eq (x : State) (r : RoomId) (p : Presentation) (records : List Presence) (goingIn : List Member) (opens : Bool) :
    (if opens = true then
        ((((x.addRecords r records).noticeMembers goingIn).openLead r p.credential .entered p.issueLevel).clearWaitingElsewhere r
          p.credential).release r .entry
      else (((x.addRecords r records).noticeMembers goingIn).openLead r p.credential .entered p.issueLevel).clearWaitingElsewhere r
        p.credential) = x.collected r p records goingIn opens := by
  have is : (((x.addRecords r records).noticeMembers goingIn).openLead r p.credential .entered p.issueLevel).clearWaitingElsewhere r
      p.credential = { x with
        roll := x.rollWith r records, permits := x.noticed goingIn
        slots := put (elsewhere x.slots r fun y => y.lessWaiting p.credential) r (x.freshLead p.credential .entered p.issueLevel) } := by
    simp only [State.addRecords_eq, State.noticeMembers_eq, State.openLead, State.setSlot, State.withSlots,
      State.clearWaitingElsewhere_eq, elsewhere_put]
    rfl
  rw [is, State.release_entering]
  cases opens <;> rfl

/-- The members' verdicts on a state whose clock and settings are another's, after its last overlay at the reader if any. -/
theorem State.completionVerdicts_after {y : State} {staff : Nat} {b : CompletionBounds} {members : List Member}
    (some_ : members ≠ []) (clock : y.clock = x.clock) (settings : y.settings = x.settings)
    (rooms : ∀ image, y.roomsShowing r .entry image = x.roomsShowing r .entry image) :
    y.completionVerdicts r members.length (b.count members.length) ⟨b.ratio, b.room, b.roll⟩ staff 1 members =
      { y with
        rooms := x.roomsShowing r .entry (if b.count members.length = members.length then .granted else .denied)
        reports := y.reports.offerVerdicts (x.verdictsOfCompletion r staff b members) } := by
  have all : 0 + members.length ≤ b.count members.length ↔ b.count members.length = members.length := by
    rw [Nat.zero_add]
    exact ⟨fun le => Nat.le_antisymm (b.count_le _) le, fun eq => eq.ge⟩
  have verdicts : (members.mapIdx fun j m =>
      y.completionVerdict r staff members.length (b.count members.length) ⟨b.ratio, b.room, b.roll⟩ (0 + j) m)
        = x.verdictsOfCompletion r staff b members := by
    refine congrArg (List.mapIdx · members) (funext fun j => funext fun m => ?_)
    rw [Nat.zero_add, State.completionVerdict]
    simp only [State.verdictOfMember, clock, State.roomSettings, settings]
  rw [State.completionVerdicts_eq y r staff members.length _ _ members 0 some_, verdicts, rooms, if_congr all rfl rfl]

theorem State.completeByStaff_inside {y : Party} (some_ : y.members ≠ []) : x.completeByStaff r p u y false =
    { x.collected r p
        ((y.members.take ((x.completionBounds r u 0).count y.members.length)).map fun m => x.entrant r m (some p.credential) none)
        (y.members.take ((x.completionBounds r u 0).count y.members.length))
        (decide (0 < (x.completionBounds r u 0).count y.members.length)) with
      rooms := x.roomsShowing r .entry
        (if (x.completionBounds r u 0).count y.members.length = y.members.length then .granted else .denied)
      reports := x.reports.offerVerdicts (x.verdictsOfCompletion r p.credential (x.completionBounds r u 0) y.members) } := by
  have places := State.completionPlaces_eq x r u 0
  have released := Places.released_eq (x.completionBounds r u 0) y.members.length
  rw [State.completeByStaff]
  simp only [if_neg Bool.false_ne_true, places, released, Bool.false_or, List.nil_append]
  rw [State.collected_eq]
  exact State.completionVerdicts_after some_ rfl rfl fun _ => rfl

theorem State.completeByStaff_outside {y : Party} (some_ : y.members ≠ []) : x.completeByStaff r p u y true =
    { x.collected r p
        (x.staffEntrant r p.credential ::
          (y.members.take ((x.completionBounds r u 1).count y.members.length)).map fun m => x.entrant r m (some p.credential) none)
        (y.members.take ((x.completionBounds r u 1).count y.members.length)) true with
      rooms := x.roomsShowing r .entry
        (if (x.completionBounds r u 1).count y.members.length = y.members.length then .granted else .denied)
      reports := x.reports.offerVerdicts
        ({ x.verdictOn p (some (r, .entry)) .grant .none with partySize := some y.members.length }
          :: x.verdictsOfCompletion r p.credential (x.completionBounds r u 1) y.members) } := by
  have places := State.completionPlaces_eq x r u 1
  have released := Places.released_eq (x.completionBounds r u 1) y.members.length
  rw [State.completeByStaff]
  simp only [if_true, places, released, Bool.true_or, List.cons_append, List.nil_append]
  have entered := State.collected_eq x r p
    (x.staffPresence r p.credential ::
      (y.members.take ((x.completionBounds r u 1).count y.members.length)).map fun m => x.memberPresence r m (some p.credential) none)
    (y.members.take ((x.completionBounds r u 1).count y.members.length)) true
  simp only [if_true] at entered
  rw [entered]
  let inside := x.collected r p
    (x.staffEntrant r p.credential ::
      (y.members.take ((x.completionBounds r u 1).count y.members.length)).map fun m => x.entrant r m (some p.credential) none)
    (y.members.take ((x.completionBounds r u 1).count y.members.length)) true
  let verdict : Verdict := { x.verdictOn p (some (r, .entry)) .grant .none with partySize := some y.members.length }
  have issued := State.issue_showing (x := inside) (v := verdict) (r := r) (d := .entry) (image := .granted) rfl rfl
  have rest := State.completionVerdicts_after (x := x) (r := r) (staff := p.credential) (b := x.completionBounds r u 1)
    (y := { inside with rooms := x.roomsShowing r .entry .granted, reports := x.reports.offerRoutine (.verdict verdict) })
    some_ rfl rfl fun _ => State.roomsShowing_again (x := x) rfl rfl
  exact (congrArg (fun z : State => z.completionVerdicts r y.members.length
    ((x.completionBounds r u 1).count y.members.length)
    ⟨(x.completionBounds r u 1).ratio, (x.completionBounds r u 1).room, (x.completionBounds r u 1).roll⟩ p.credential 1 y.members)
    issued).trans rest

theorem State.staffCompletion_inside {y : Party} {q : Presence} (inside : x.presenceOf p.credential = some q) (here : q.room = r) :
    x.staffCompletion r p u y = x.completeByStaff r p u y false := by
  have notOutside : (q.room != r) = false := bne_eq_false_iff_eq.mpr here
  rw [State.staffCompletion, inside]
  simp only [notOutside]
  rfl

theorem State.staffCompletion_outside {y : Party} (off : x.offRoll p.credential)
    (room : x.roomCount r + 1 ≤ (x.roomSettings r).occupancyLimit) (roll : x.roll.length + 1 ≤ 64) :
    x.staffCompletion r p u y = x.completeByStaff r p u y true := by
  rw [State.staffCompletion, State.presenceOf_eq_none.mpr off]
  simp only [if_true, State.noPlaceFor_none room roll]

theorem State.staffCompletion_full {y : Party} (off : x.offRoll p.credential) (some_ : y.members ≠ [])
    (full : (x.roomSettings r).occupancyLimit < x.roomCount r + 1 ∨ 64 < x.roll.length + 1) : x.staffCompletion r p u y =
      { x with
        slots := put x.slots r .empty
        rooms := x.roomsShowing r .entry .denied
        reports := x.reports.offerVerdicts
          ({ x.verdictOn p (some (r, .entry)) .deny
              (if (x.roomSettings r).occupancyLimit < x.roomCount r + 1 then .roomFull else .rollFull) with
              partySize := some y.members.length }
            :: y.members.map fun m => x.verdictOfMember r m y.members.length .deny
              (if (x.roomSettings r).occupancyLimit < x.roomCount r + 1 then .roomFull else .rollFull)) } := by
  rw [State.staffCompletion, State.presenceOf_eq_none.mpr off]
  simp only [if_true, State.noPlaceFor_some full]
  let reason : Reason := if (x.roomSettings r).occupancyLimit < x.roomCount r + 1 then .roomFull else .rollFull
  let verdict : Verdict := { x.verdictOn p (some (r, .entry)) .deny reason with partySize := some y.members.length }
  let after : State := { x with
    slots := put x.slots r .empty, rooms := x.roomsShowing r .entry .denied
    reports := x.reports.offerRoutine (.verdict verdict) }
  have issued : (x.setSlot r .empty).issue verdict = after :=
    State.issue_showing (x := x.setSlot r .empty) (v := verdict) (r := r) (d := .entry) (image := .denied) rfl rfl
  have rest := State.denyMembers_eq after r y.members.length reason y.members
  rw [if_neg some_, State.roomsShowing_again (x := x) (y := after) rfl rfl] at rest
  exact (congrArg (fun z : State => z.denyMembers r y.members.length reason y.members) issued).trans rest

end

/-! ## The decisions that need company -/

/-- Settles O56: each decision by the slot of the room, the rule and the places. -/
theorem partiesFormAndAreCollected : Obligations.PartiesFormAndAreCollected := by
  refine ⟨fun r p w c s reaches chosen => ?_, fun r p u s reaches => ?_⟩
  · intro me limit leftElsewhere about pending denied
    let x : State := s.noted p
    have ran : s.present p = x.escortHandling r p w c := reaches.present_eq chosen
    refine ⟨fun needs slot => ?_, fun y slot needs => ?_, fun y m slot pair one rule => ?_, fun l u slot staff active needs => ?_⟩
    · have started : x.escortHandling r p w c = x.startParty r p w c := by
        rcases slot with empty | ⟨l, lead, useless⟩
        · have empty : x.slot r = .empty := empty
          rw [State.escortHandling_noLead needs fun l => by rw [empty]; exact nofun,
            State.partyHandling_start fun y => by rw [empty]; exact nofun]
        · have lead : x.slot r = .lead l := lead
          have useless : x.cannotUse r l := useless
          rw [State.escortHandling_lead needs lead, State.meetLead_useless useless,
            State.partyHandling_start fun y => by rw [lead]; exact nofun]
      exact ran.trans (started.trans (State.startParty_eq x r p w c))
    · have slot : x.slot r = .party y := slot
      rw [ran, State.escortHandling_noLead needs (fun l => by rw [slot]; exact nofun), State.partyHandling_party slot]
      refine ⟨fun staff place => State.joinParty_place (x := x) staff place, fun staff full => State.joinParty_full (x := x) staff full,
        fun company pair other => State.joinParty_busy (x := x) pair ?_⟩
      rintro ⟨isPair, same⟩
      rcases other with isStaff | differs
      · rw [isPair] at isStaff
        cases isStaff
      · exact differs same
    · rw [ran, State.escortHandling_pair (x := x) slot pair one rule]
      refine ⟨fun room places => ?_, fun full => State.completePair_denies (x := x) full⟩
      rw [State.completePair_grants (x := x) room places, State.noted_release_doors]
      rfl
    · rw [ran, State.escortHandling_lead (x := x) needs slot]
      refine ⟨fun q entered inside here place => ?_, fun waiting => ?_⟩
      · rw [State.meetLead_entered (x := x) staff active entered inside here place]
        refine ⟨fun room places => ?_, fun full => State.admitContractor_denies (x := x) (some l.staff) full⟩
        rw [State.admitContractor_grants (x := x) (some l.staff) room places, State.grantContractor_eq, State.noted_release_doors]
        rfl
      · rw [State.meetLead_waiting (x := x) staff active waiting]
        refine ⟨fun room places => ?_, fun full => State.completeLead_denies (x := x) full⟩
        rw [State.completeLead_grants (x := x) room places, State.noted_release_doors]
        rfl
  · intro limit about clearElsewhere denied
    let x : State := s.noted p
    refine ⟨fun off => ?_, fun y slot some_ => ?_⟩
    · intro goesIn
      have ran : s.present p = x.decideStaffSlot r p u := reaches.present_offRoll off
      have goes (lead : Bool) (admitted : s.present p = x.admitStaff r p lead) :
          goesIn (if lead = true then put clearElsewhere r (s.freshLead p.credential .entered p.issueLevel) else clearElsewhere) := by
        refine ⟨fun room places => ?_, fun full => admitted.trans (State.admitStaff_denies (x := x) lead full)⟩
        rw [admitted, State.admitStaff_grants (x := x) lead room places, State.noted_release_doors]
        rfl
      refine ⟨fun slot => ?_, fun l slot waiting other => ?_⟩
      · rw [State.decideStaffSlot_open (x := x) slot] at ran
        refine ⟨fun alone => ?_, fun notAlone => ?_⟩
        · exact goes true (ran.trans (if_pos alone))
        · exact (ran.trans (if_neg (Bool.eq_false_iff.mp notAlone))).trans (State.waitAsLead_eq x r p)
      · rw [State.decideStaffSlot_taken (x := x) slot waiting other] at ran
        refine ⟨fun alone => ?_, fun notAlone => ?_⟩
        · exact goes false (ran.trans (if_pos alone))
        · exact (ran.trans (if_neg (Bool.eq_false_iff.mp notAlone))).trans (State.denyPlain_eq x r p .partyBusy)
    · intro size
      refine ⟨fun off => ⟨fun room places => ?_, fun full => ?_⟩, fun q inside here => ?_⟩
      · intro b goingIn
        rw [reaches.present_offRoll off, State.decideStaffSlot_party (x := x) slot, State.staffCompletion_outside (x := x) off room places,
          State.completeByStaff_outside some_, State.collected, if_pos rfl, State.noted_release_doors]
        rfl
      · rw [reaches.present_offRoll off, State.decideStaffSlot_party (x := x) slot]
        exact State.staffCompletion_full (x := x) off some_ full
      · intro b goingIn
        have collects : s.collectsFromInside r p.credential = true := by
          rw [State.collectsFromInside, slot, inside]
          exact beq_iff_eq.mpr here
        have nobody : goingIn = [] ↔ ¬ 0 < b.count size := by
          rw [List.take_eq_nil_iff, or_iff_left some_]
          omega
        rw [reaches.present_collects collects, State.decideStaffSlot_party (x := x) slot,
          State.staffCompletion_inside (x := x) inside here, State.completeByStaff_inside some_, State.collected, State.noted_release_doors]
        have doors : (if goingIn = [] then s.doors else (s.release r .entry).doors)
            = if decide (0 < b.count size) = true then (s.release r .entry).doors else s.doors := by
          by_cases empty : goingIn = []
          · rw [if_pos empty, if_neg (mt of_decide_eq_true (nobody.mp empty))]
          · rw [if_neg empty, if_pos (decide_eq_true (not_not.mp (mt nobody.mpr empty)))]
        rw [doors]
        rfl

end Sys2Proof.Machine
